-- ==== Sys2Proof/Word.lean ====
section
/-! DEFINITION. The widths the spec's data come in (spec/00_scope.md R9, R12; spec/30_encoding.md R80, R92). -/

namespace Sys2Proof

/-- A byte: `lo`, `hi`, a serial payload, a duty (R80, R84, R86). -/
abbrev Byte := BitVec 8

/-- A Tick word or a width: 16 bits (R80, R82). -/
abbrev Tick := BitVec 16

/-- A command word: 16 bits, operation in the high byte, operand in the low byte (R92). -/
abbrev CommandWord := BitVec 16

/-- A line level or a one-bit flag: `true` is 1 (mark), `false` is 0 (space) (R18, R85). -/
abbrev Level := Bool

end Sys2Proof
end

