-- ==== Sys2Proof/Syntax.lean ====
section
/-! DEFINITION. The 27 atomic operations of spec/30_encoding.md R100, one constructor per row of the table. -/

namespace Sys2Proof

/-- The operation table of R100. The operands are those of R92, R93: a level, a byte, a mode value. -/
inductive Instr where
  /-- RESET, R250 -/
  | reset
  /-- TICK, R111 -/
  | tick
  /-- OVF.ISR, R112 -/
  | ovfIsr
  /-- NOW.SEI, R113 -/
  | nowSei
  /-- NOW.RDLO, R114 -/
  | nowRdlo
  /-- NOW.CLI, R115 -/
  | nowCli
  /-- NOW.RDHI, R116 -/
  | nowRdhi
  /-- PIN v, R131 -/
  | pin (v : Level)
  /-- EC.ENTER, R132 -/
  | ecEnter
  /-- EC.RDPIN, R133 -/
  | ecRdpin
  /-- EC.STORE, R134 -/
  | ecStore
  /-- EC.RET, R135 -/
  | ecRet
  /-- ML.CLAIM, R151 -/
  | mlClaim
  /-- ML.WIDTH, R152 -/
  | mlWidth
  /-- ML.CLASSIFY, R167 -/
  | mlClassify
  /-- ML.PWMWR, R168 -/
  | mlPwmwr
  /-- TX.START d, R181 -/
  | txStart (d : Byte)
  /-- TX.DATA, R182 -/
  | txData
  /-- TX.STOP, R183 -/
  | txStop
  /-- ML.POLL, R201 -/
  | mlPoll
  /-- ML.SUSPEND, R202 -/
  | mlSuspend
  /-- ML.CLRRDY, R204 -/
  | mlClrrdy
  /-- ML.RESUME, R205 -/
  | mlResume
  /-- CS.ENTER, R206 -/
  | csEnter
  /-- CS.LEAVE, R207 -/
  | csLeave
  /-- BOOT.MODE m, R251 -/
  | bootMode (m : BitVec 2)
  /-- BOOT.START, R252 -/
  | bootStart
  deriving DecidableEq, Repr

/-- The four agents that take steps (R16). -/
inductive Agent where
  /-- the outside world -/
  | env
  /-- the hardware counter -/
  | cnt
  /-- the interrupt dispatcher -/
  | irq
  /-- the single processor -/
  | cpu
  deriving DecidableEq, Repr

/-- The agent column of R100. -/
def Instr.agent : Instr → Agent
  | .reset | .pin _ => .env
  | .tick => .cnt
  | .ovfIsr | .ecEnter => .irq
  | .nowSei | .nowRdlo | .nowCli | .nowRdhi | .ecRdpin | .ecStore | .ecRet => .cpu
  | .mlClaim | .mlWidth | .mlClassify | .mlPwmwr => .cpu
  | .txStart _ | .txData | .txStop => .cpu
  | .mlPoll | .mlSuspend | .mlClrrdy | .mlResume | .csEnter | .csLeave => .cpu
  | .bootMode _ | .bootStart => .cpu

/-- The four command word formats of R92. -/
inductive Format where
  /-- no operand: arg is 0 -/
  | e
  /-- byte operand: arg is d -/
  | b
  /-- level operand: arg bit 0 is v -/
  | l
  /-- mode operand: arg bits 1:0 are m -/
  | m
  deriving DecidableEq, Repr

/-- How many low bits of `arg` the format gives the operand; the others must be 0 (R92). -/
def Format.operandBits : Format → Nat
  | .e => 0
  | .b => 8
  | .l => 1
  | .m => 2

/-- The format column of R100. -/
def Instr.format : Instr → Format
  | .pin _ => .l
  | .txStart _ => .b
  | .bootMode _ => .m
  | .reset | .tick | .ovfIsr | .nowSei | .nowRdlo | .nowCli | .nowRdhi => .e
  | .ecEnter | .ecRdpin | .ecStore | .ecRet | .mlClaim | .mlWidth | .mlClassify | .mlPwmwr => .e
  | .txData | .txStop | .mlPoll | .mlSuspend | .mlClrrdy | .mlResume | .csEnter | .csLeave => .e
  | .bootStart => .e

/-- The operand as the number that stands in `arg` (R93); 0 where there is none. -/
def Instr.operand : Instr → Nat
  | .pin v => v.toNat
  | .txStart d => d.toNat
  | .bootMode m => m.toNat
  | .reset | .tick | .ovfIsr | .nowSei | .nowRdlo | .nowCli | .nowRdhi => 0
  | .ecEnter | .ecRdpin | .ecStore | .ecRet | .mlClaim | .mlWidth | .mlClassify | .mlPwmwr => 0
  | .txData | .txStop | .mlPoll | .mlSuspend | .mlClrrdy | .mlResume | .csEnter | .csLeave => 0
  | .bootStart => 0

end Sys2Proof
end

