-- ==== Sys2Proof/Decode.lean ====
section
/-! DEFINITION. Decoding and encoding command words (spec/30_encoding.md R92, R93, R100, R101). -/

namespace Sys2Proof

/-- Why a command word is invalid (R101). -/
inductive DecodeError where
  /-- `op` is not in the table of R100 -/
  | unknownOperation (op : Byte)
  /-- a bit that the format says must be 0 is 1 -/
  | reservedBits (op arg : Byte)
  deriving DecidableEq, Repr

/-- `op = word[15:8]` (R92). -/
def opField (w : CommandWord) : Byte := w.extractLsb' 8 8

/-- `arg = word[7:0]` (R92). -/
def argField (w : CommandWord) : Byte := w.extractLsb' 0 8

/-- Format E: `arg` must be 0 (R92). -/
def formatE (i : Instr) (arg : Byte) : Option Instr :=
  if arg = 0#8 then some i else none

/-- Format B: `d = arg` (R92, R93). -/
def formatB (f : Byte → Instr) (arg : Byte) : Option Instr :=
  some (f arg)

/-- Format L: `v = arg[0]`, `arg[7:1]` must be 0 (R92, R93). -/
def formatL (f : Level → Instr) (arg : Byte) : Option Instr :=
  if arg.extractLsb' 1 7 = 0#7 then some (f (arg.getLsbD 0)) else none

/-- Format M: `m = arg[1:0]`, `arg[7:2]` must be 0 (R92, R93). -/
def formatM (f : BitVec 2 → Instr) (arg : Byte) : Option Instr :=
  if arg.extractLsb' 2 6 = 0#6 then some (f (arg.extractLsb' 0 2)) else none

/-- The operation table of R100 for an operation byte: how its operand byte is read, or `none` where the byte is not in the
table. -/
def operandReader (op : Byte) : Option (Byte → Option Instr) :=
  if op = 0x00#8 then some (formatE .reset)
  else if op = 0x01#8 then some (formatE .tick)
  else if op = 0x02#8 then some (formatE .ovfIsr)
  else if op = 0x04#8 then some (formatE .nowSei)
  else if op = 0x05#8 then some (formatE .nowRdlo)
  else if op = 0x06#8 then some (formatE .nowCli)
  else if op = 0x07#8 then some (formatE .nowRdhi)
  else if op = 0x10#8 then some (formatL .pin)
  else if op = 0x11#8 then some (formatE .ecEnter)
  else if op = 0x12#8 then some (formatE .ecRdpin)
  else if op = 0x13#8 then some (formatE .ecStore)
  else if op = 0x14#8 then some (formatE .ecRet)
  else if op = 0x20#8 then some (formatE .mlClaim)
  else if op = 0x21#8 then some (formatE .mlWidth)
  else if op = 0x28#8 then some (formatE .mlClassify)
  else if op = 0x29#8 then some (formatE .mlPwmwr)
  else if op = 0x30#8 then some (formatB .txStart)
  else if op = 0x31#8 then some (formatE .txData)
  else if op = 0x32#8 then some (formatE .txStop)
  else if op = 0x40#8 then some (formatE .mlPoll)
  else if op = 0x41#8 then some (formatE .mlSuspend)
  else if op = 0x42#8 then some (formatE .mlClrrdy)
  else if op = 0x43#8 then some (formatE .mlResume)
  else if op = 0x44#8 then some (formatE .csEnter)
  else if op = 0x45#8 then some (formatE .csLeave)
  else if op = 0x48#8 then some (formatM .bootMode)
  else if op = 0x49#8 then some (formatE .bootStart)
  else none

/-- The operation a command word stands for, or why it is invalid (R101). -/
def decode (w : CommandWord) : Except DecodeError Instr :=
  match operandReader (opField w) with
  | none => .error (.unknownOperation (opField w))
  | some read =>
    match read (argField w) with
    | none => .error (.reservedBits (opField w) (argField w))
    | some i => .ok i

/-- A row of the host's opcode table as the command word it stands for: its low `nbits` bits, the others 0. A command word
has 16 bits (R105). Log 16. -/
def tableWord (nbits w : Nat) : CommandWord :=
  BitVec.ofNat 16 (w % 2 ^ nbits)

/-- The instruction the decoder reads from the bits `w` of an opcode-table row. -/
def decodeTableWord (nbits w : Nat) : Option Instr :=
  match decode (tableWord nbits w) with
  | .ok i => some i
  | .error _ => none

/-- The command word of an operation, row by row of R100 with the operand placed as R92 says. -/
def encode : Instr → CommandWord
  | .reset => 0x0000#16
  | .tick => 0x0100#16
  | .ovfIsr => 0x0200#16
  | .nowSei => 0x0400#16
  | .nowRdlo => 0x0500#16
  | .nowCli => 0x0600#16
  | .nowRdhi => 0x0700#16
  | .pin v => 0x10#8 ++ (0#7 ++ BitVec.ofBool v)
  | .ecEnter => 0x1100#16
  | .ecRdpin => 0x1200#16
  | .ecStore => 0x1300#16
  | .ecRet => 0x1400#16
  | .mlClaim => 0x2000#16
  | .mlWidth => 0x2100#16
  | .mlClassify => 0x2800#16
  | .mlPwmwr => 0x2900#16
  | .txStart d => 0x30#8 ++ d
  | .txData => 0x3100#16
  | .txStop => 0x3200#16
  | .mlPoll => 0x4000#16
  | .mlSuspend => 0x4100#16
  | .mlClrrdy => 0x4200#16
  | .mlResume => 0x4300#16
  | .csEnter => 0x4400#16
  | .csLeave => 0x4500#16
  | .bootMode m => 0x48#8 ++ (0#6 ++ m)
  | .bootStart => 0x4900#16

end Sys2Proof
end

