-- ==== Sys2Proof/Machine/Phases.lean ====
section
/-! DEFINITION. The named values of the control cells and sequencers of spec/10_state.md, and what a turn is. -/

namespace Sys2Proof.Machine

/-- `ctx` (R34): the context the processor runs in. -/
inductive Ctx where
  | main
  | edge
  deriving DecidableEq, Repr, Inhabited

/-- `loop_state` (R35). -/
inductive LoopState where
  | idle
  | reporting
  deriving DecidableEq, Repr, Inhabited

/-- `ec_phase` (R38): the next micro-step of the edge handler. -/
inductive EcPhase where
  | sei
  | rdlo
  | cli
  | rdhi
  | rdpin
  | store
  | ret
  deriving DecidableEq, Repr, Inhabited

/-- `ml_phase` (R38): the next command of the canonical main loop. -/
inductive MlPhase where
  | poll
  | suspend
  | claim
  | width
  | classify
  | pwmwr
  | report
  | clrrdy
  | resume
  deriving DecidableEq, Repr, Inhabited

/-- `boot_phase` (R46): the position in the boot order. -/
inductive BootPhase where
  | sample
  | start
  | run
  deriving DecidableEq, Repr, Inhabited

/-- One entry of the schedule: which agent moves next (R16, R71). The spec's model is a transition system; this list is how
one deterministic step function is told which step is taken. Log 1. -/
inductive Turn where
  /-- an operation presented as its command word (R92, R104) -/
  | word (w : CommandWord)
  /-- the first element of ML.REPORT's expansion, `line <-` (R103, R203), which has no command word. Log 12. -/
  | report
  /-- the dispatcher and the processor take the step the canonical loop gives them (R208). Log 2. -/
  | canonical
  deriving DecidableEq, Repr, Inhabited

end Sys2Proof.Machine
end

