-- ==== Sys2Proof/Config.lean ====
section
/-! DEFINITION. The configuration of spec/00_scope.md R10, R11 as one record, and the free values: opaque constants
without a body, so that nothing can be proved of the value the spec leaves open. -/

namespace Sys2Proof

/-- Where a band's duty comes from (R161, R165). -/
inductive BandOutput where
  /-- a target level in millivolts, scaled by the supply voltage (R164) -/
  | mv (target : Nat)
  /-- a constant duty byte -/
  | const (duty : Byte)
  deriving DecidableEq, Repr, Inhabited

/-- One record of the band table `BANDS` (R161). -/
structure Band where
  /-- the band's name, for the reader; nothing depends on it -/
  name : String
  center : Int
  lowerTol : Int
  upperTol : Int
  output : BandOutput
  /-- the text the diagnostic line prints for the band (R90) -/
  code : List Byte
  deriving DecidableEq, Repr, Inhabited

/-- The three kinds of a width in no window (R163). -/
inductive OutKind where
  | below
  | between
  | above
  deriving DecidableEq, Repr, Inhabited

/-- A Band value (R163): a band of the table, out of range, or none (the continuous policy, R167). -/
inductive BandValue where
  | none
  | inBand (b : Band)
  | out (k : OutKind)
  deriving DecidableEq, Repr, Inhabited

/-- `MAP_POLICY` (R10, R160). -/
inductive MapPolicy where
  | banded
  | continuous
  deriving DecidableEq, Repr, Inhabited

/-- `OOR_POLICY` (R10, R168). -/
inductive OorPolicy where
  | hold
  | toDefault
  deriving DecidableEq, Repr, Inhabited

/-- `IRQ_PRIORITY` (R11, R230). -/
inductive IrqPriority where
  | edgeFirst
  | ovfFirst
  | either
  deriving DecidableEq, Repr, Inhabited

/-- The configuration parameters of R10 and R11. `CLOCK_READ_POLICY` is fixed to A (R119) and `LO_RESET`,
`DUTY_RESET` are draws of the operation RESET (`Config.loAtReset`, `Config.dutyAtReset`). -/
structure Configuration where
  /-- `BAUD`, a positive integer -/
  baud : Nat
  /-- `MODE`, the value the two jumpers give at boot -/
  modeJumpers : BitVec 2
  /-- `SUPPLY_MV`, a positive integer -/
  supplyMv : Nat
  /-- `BANDS`, an ordered non-empty list -/
  bands : List Band
  mapPolicy : MapPolicy
  oorPolicy : OorPolicy
  /-- `DEFAULT_DUTY`, used when the out-of-range policy is `toDefault` -/
  defaultDuty : Byte
  /-- `IN_MIN` of the continuous policy -/
  inMin : Int
  /-- `IN_MAX` of the continuous policy -/
  inMax : Int
  /-- `OOR_TEXT`, the text printed for an out-of-range band -/
  oorText : List Byte
  irqPriority : IrqPriority
  /-- `TICK_US`, microseconds per tick. The spec gives it neither a type nor bounds (R11, D12): a rational here, which no
  check bounds. Log 25. -/
  tickUs : Rat
  deriving DecidableEq, Repr

namespace Config

/-! What the spec gives no default for (R10, R11): whole parameters, and the calibration of the default band table.
Log 4. -/

/-- `MODE`: no default (R10). -/
opaque openModeJumpers : BitVec 2
/-- `SUPPLY_MV`: no default (R10). -/
opaque openSupplyMv : Nat
/-- The calibration of the default table's low band: no default (R10, N5). -/
opaque openLowBand : Band
/-- The calibration of the default table's mid band: no default (R10, N5). -/
opaque openMidBand : Band
/-- The calibration of the default table's high band: no default (R10, N5). -/
opaque openHighBand : Band
/-- `MAP_POLICY`: no default (R10, U4). -/
opaque openMapPolicy : MapPolicy
/-- `DEFAULT_DUTY`: no default (R10, N33). -/
opaque openDefaultDuty : Byte
/-- `IN_MIN`: no default (R10). -/
opaque openInMin : Int
/-- `IN_MAX`: no default (R10). -/
opaque openInMax : Int
/-- `OOR_TEXT`: no default (R11, D19). -/
opaque openOorText : List Byte
/-- `TICK_US`: no default (R11, D12). Log 25. -/
opaque openTickUs : Rat

/-- The spec's default band table (R90, D19): low with code `0`, mid with code `1`, high with code `2`. The centers, the
tolerances and the outputs have no default. Log 4. -/
def defaultBands : List Band :=
  [{ openLowBand with name := "low", code := [0x30#8] },
   { openMidBand with name := "mid", code := [0x31#8] },
   { openHighBand with name := "high", code := [0x32#8] }]

/-- The configuration of the machine right after reset: the spec's default where it has one (`BAUD`
19200 in R10, the bands and their codes in R90, `OOR_POLICY` hold in R168, `IRQ_PRIORITY` either in R11), an open constant
otherwise. Log 4. -/
def atReset : Configuration where
  baud := 19200
  modeJumpers := openModeJumpers
  supplyMv := openSupplyMv
  bands := defaultBands
  mapPolicy := openMapPolicy
  oorPolicy := .hold
  defaultDuty := openDefaultDuty
  inMin := openInMin
  inMax := openInMax
  oorText := openOorText
  irqPriority := .either
  tickUs := openTickUs

/-! The values the operation RESET leaves in the fields that R44 and R250 call unspecified, a draw or OPEN: each a
function of the counter `draws`, so that two resets may differ. Log 6. -/

/-- `LO_RESET` (R21, U12). -/
opaque loAtReset : Nat → Byte
/-- `DUTY_RESET` (R37, U13). -/
opaque dutyAtReset : Nat → Byte
/-- `lo_snap` (R26). -/
opaque loSnapAtReset : Nat → Byte
/-- `hi_snap` (R26). -/
opaque hiSnapAtReset : Nat → Byte
/-- `snap` (R26). -/
opaque snapAtReset : Nat → Tick
/-- `lvl` (R26). -/
opaque lvlAtReset : Nat → Level
/-- `r` (R27). -/
opaque rAtReset : Nat → Level
/-- `cs` (R27). -/
opaque csAtReset : Nat → Tick
/-- `ce` (R27). -/
opaque ceAtReset : Nat → Tick
/-- `w` (R27). -/
opaque wAtReset : Nat → Tick
/-- `band` (R27). -/
opaque bandAtReset : Nat → BandValue
/-- `dnew` (R27). -/
opaque dnewAtReset : Nat → Byte
/-- `line` (R27). -/
opaque lineAtReset : Nat → List Byte
/-- `tx_sr` (R28). -/
opaque txSrAtReset : Nat → Byte
/-- `mode` (R36). -/
opaque modeAtReset : Nat → BitVec 2
/-- `ec_phase` (R38). -/
opaque ecPhaseAtReset : Nat → Machine.EcPhase

/-- The text of the diagnostic line for a Band value `none` under the banded policy, of which R90 says nothing: a free
value. Log 23. -/
opaque noBandText : Byte → List Byte

/-- With `IRQ_PRIORITY = either` both dispatches are enabled (R230); in a canonical turn this free value says whether
the overflow is served first. Log 15. -/
opaque overflowServedFirst : Nat → Bool

/-- Which turn comes next where none is placed (R71, R283): any operation of any agent, at any place, for ever. Log 24. -/
opaque freeTurn : Nat → Machine.Turn

end Config

end Sys2Proof
end

