-- ==== Sys2Proof/Machine/State.lean ====
section
/-! DEFINITION. The state of spec/10_state.md R20 as plain data, the reasons a step can stop, and the machine after reset. -/

namespace Sys2Proof.Machine

/-- The record of R20 and four fields of the model's own (`reportActive`, `cfg`, `schedule`, `draws`). -/
structure State where
  /-- `lo`, the hardware counter (R21) -/
  lo : Byte
  /-- `hi`, the software high byte (R22) -/
  hi : Byte
  /-- `t_start`, the pending pulse-start timestamp (R24) -/
  tStart : Tick
  /-- `t_end`, the pulse-end timestamp (R25) -/
  tEnd : Tick
  /-- `lo_snap` (R26) -/
  loSnap : Byte
  /-- `hi_snap` (R26) -/
  hiSnap : Byte
  /-- `snap` (R26) -/
  snap : Tick
  /-- `lvl` (R26) -/
  lvl : Level
  /-- `r`, the polled copy of `ready` (R27) -/
  r : Level
  /-- `cs`, the copy of `t_start` (R27) -/
  cs : Tick
  /-- `ce`, the copy of `t_end` (R27) -/
  ce : Tick
  /-- `w`, the width, read as signed (R27, R82) -/
  w : Tick
  /-- `band` (R27, R163) -/
  band : BandValue
  /-- `dnew`, the candidate duty (R27) -/
  dnew : Byte
  /-- `line`, the part of the diagnostic line not yet sent (R27, R203) -/
  line : List Byte
  /-- `tx_sr`, the byte being sent (R28) -/
  txSr : Byte
  /-- `tx_idx`, the number of data bits already sent, 0..8 (R28) -/
  txIdx : Fin 9
  /-- `ready`, the Ready Signal (R29) -/
  ready : Level
  /-- `ovf_pending`, the overflow latch (R30) -/
  ovfPending : Level
  /-- `edge_pending`, the input-transition latch (R31) -/
  edgePending : Level
  /-- `tx_busy` (R32) -/
  txBusy : Level
  /-- `ie`, the interrupt delivery gate (R33) -/
  ie : Level
  /-- `ctx` (R34) -/
  ctx : Ctx
  /-- `loop_state` (R35) -/
  loopState : LoopState
  /-- `mode`, the Operating Mode (R36) -/
  mode : BitVec 2
  /-- `duty`, the PWM compare register (R37) -/
  duty : Byte
  /-- `ec_phase` (R38) -/
  ecPhase : EcPhase
  /-- `ml_phase` (R38) -/
  mlPhase : MlPhase
  /-- `boot_phase` (R46) -/
  bootPhase : BootPhase
  /-- `pin`, the input pin (R39) -/
  pin : Level
  /-- `txd`, the serial output (R39) -/
  txd : Level
  /-- `wave`, levels and durations in microseconds, oldest first (R40) -/
  wave : List (Level × Rat)
  /-- `pwm_log`, the values written to `duty`, oldest first (R40) -/
  pwmLog : List Byte
  /-- `T`, the ghost count of TICK steps (R40) -/
  ticks : Nat
  /-- an expansion of ML.REPORT (R103, R203) has begun and is neither finished nor abandoned. Log 12. -/
  reportActive : Bool
  /-- the configuration, a parameter of the step relation (R41) that no operation writes. Log 3. -/
  cfg : Configuration
  /-- the turns placed and still to come; with none, each turn is a free choice. Log 1, log 24. -/
  schedule : List Turn
  /-- how many free values have been drawn. Log 6, log 15, log 24. -/
  draws : Nat
  deriving DecidableEq, Repr

/-- The block raises no exception: it has no cause code, no trap and no fault (R220; 93_implementation_defined.md says
`fault` and `stuck` are never used). So no step faults. Log 18. -/
inductive Fault where
  deriving DecidableEq, Repr

/-- Why an operation is refused: the closed list of R222. A refused operation has no step and leaves no next state. Each
of them is safe: it makes claims unprovable, never false (R222). -/
inductive Refusal where
  /-- an instruction with no meaning yet: raised by no arm of `exec`. Safe. -/
  | notModelled (mnemonic : String)
  /-- a handler micro-step with `ctx = MAIN`; a main-context operation or EC.ENTER with `ctx = EDGE`. Raised by them. Safe. -/
  | wrongContext
  /-- a micro-step out of the order of `ec_phase`; a TX step out of the order of `tx_idx`. Raised by them. Safe. -/
  | wrongPhase
  /-- a CPU step while a dispatch is enabled (R227); a dispatch that the priority puts second (R230, log 7). Safe. -/
  | dispatchPending
  /-- a main-context operation other than the next TX step while `tx_busy = 1`. Raised by main-context operations. Safe. -/
  | txBlocked
  /-- ML.CLAIM or ML.CLRRDY with `ie = 1`. Raised by them. Safe. -/
  | needsCriticalSection
  /-- TX.START with `ie = 0` and `loop_state = IDLE`. Raised by it. Safe. -/
  | blockingInCriticalSection
  /-- CS.ENTER or ML.SUSPEND with `ie = 0`. Raised by them. Safe. -/
  | nestedCriticalSection
  /-- ML.RESUME or ML.REPORT with `loop_state = IDLE`. Raised by them. Safe. -/
  | notReporting
  /-- ML.POLL, ML.SUSPEND, CS.ENTER, CS.LEAVE with `loop_state = REPORTING`. Raised by them. Safe. -/
  | notIdle
  /-- ML.SUSPEND with `r = 0`. Raised by it. Safe. -/
  | notObserved
  /-- CS.LEAVE with `ie = 1`. Raised by it. Safe. -/
  | notInCriticalSection
  /-- OVF.ISR or EC.ENTER with the latch clear or `ie = 0`. Raised by them. Safe. -/
  | noLatch
  /-- a main-context operation with `boot_phase != RUN`. Raised by them. Safe. -/
  | notBooted
  /-- BOOT.MODE outside SAMPLE, BOOT.START outside START. Raised by them. Safe. -/
  | bootOrder
  /-- a command word that is not in the table or has a must-be-0 bit set (R101). Raised by a presented word. Safe. -/
  | invalidWord
  /-- a configuration outside the stated bounds (R10, R161, R164, R166, U19). Raised by ML.CLASSIFY and the TX steps
  (log 10, log 11). Safe. -/
  | badConfiguration
  deriving DecidableEq, Repr

/-- The machine right after reset (R44). The fields R44 calls unspecified, a draw or OPEN hold the values log 5 names;
the open parameters of the configuration are opaque (log 4); nothing is scheduled (log 1). -/
def State.reset : State where
  lo := 0
  hi := 0
  tStart := 0
  tEnd := 0
  loSnap := 0
  hiSnap := 0
  snap := 0
  lvl := false
  r := false
  cs := 0
  ce := 0
  w := 0
  band := .none
  dnew := 0
  line := []
  txSr := 0
  txIdx := 0
  ready := false
  ovfPending := false
  edgePending := false
  txBusy := false
  ie := false
  ctx := .main
  loopState := .idle
  mode := 0
  duty := 0
  ecPhase := .sei
  mlPhase := .poll
  bootPhase := .sample
  pin := true
  txd := true
  wave := []
  pwmLog := []
  ticks := 0
  reportActive := false
  cfg := Config.atReset
  schedule := []
  draws := 0

end Sys2Proof.Machine
end

