-- ==== Sys2Proof/Machine/Flags.lean ====
section
/-! DEFINITION. Every flag computation: the two interrupt latches, the Ready Signal, and the conditions under which a latch
is dispatched (spec/60_exceptions.md R224, R227, R230). -/

namespace Sys2Proof.Machine

/-- `ovf_pending` after a TICK that finds the counter at `lo`: set on the wrap from 255, absorbing (R111, R224). -/
def overflowLatch (lo : Byte) (pending : Level) : Level :=
  if lo = 0xFF#8 then true else pending

/-- `edge_pending` after the pin is driven from `old` to `v`: set by a transition in IDLE, dropped in REPORTING
(R131, R224). -/
def edgeLatch (old v : Level) (loopState : LoopState) (pending : Level) : Level :=
  if v ≠ old ∧ loopState = .idle then true else pending

/-- `ready` as EC.STORE drives it from the level it found: cleared by a falling, set by a rising edge (R134). -/
def readyFromLevel (lvl : Level) : Level := lvl

/-- The overflow latch may be dispatched: `ie = 1` and `ovf_pending = 1` (R112, R227). -/
def overflowDispatchable (s : State) : Bool := s.ie && s.ovfPending

/-- The edge latch may be dispatched: `ie = 1`, `edge_pending = 1` and `ctx = MAIN` (R132, R227). -/
def edgeDispatchable (s : State) : Bool := s.ie && s.edgePending && decide (s.ctx = .main)

/-- A dispatch is enabled (R227); while it is, no CPU step is. -/
def dispatchEnabled (s : State) : Bool := overflowDispatchable s || edgeDispatchable s

/-- The priority rule keeps OVF.ISR back: `edge_first` and the edge latch may be dispatched (R230). -/
def overflowHeldBack (s : State) : Bool :=
  decide (s.cfg.irqPriority = .edgeFirst) && edgeDispatchable s

/-- The priority rule keeps EC.ENTER back: `ovf_first` and the overflow latch may be dispatched (R230). -/
def edgeHeldBack (s : State) : Bool :=
  decide (s.cfg.irqPriority = .ovfFirst) && overflowDispatchable s

end Sys2Proof.Machine
end

