-- ==== Sys2Proof/WellFormed.lean ====
section
/-! DEFINITION. Well-formedness: of an instruction (its operand fits its format, R92) and of a configuration (the bounds of
R10, R161, R164, R166 and U19, one named check each). -/

namespace Sys2Proof

/-- The operand fits the operand field of the instruction's format (R92, R93). The operand types of `Instr` make it
true of every instruction; the check on raw numbers is `Format.fits`. -/
def Format.fits (f : Format) (arg : Nat) : Bool :=
  decide (arg < 2 ^ f.operandBits)

/-- An instruction is well-formed when its operand fits its format (R92). -/
def Instr.wellFormed (i : Instr) : Bool :=
  i.format.fits i.operand

/-- Both tolerances are integers of at least 1 (R161). -/
def Band.tolerancesPositive (b : Band) : Bool :=
  decide (1 ≤ b.lowerTol) && decide (1 ≤ b.upperTol)

/-- A millivolt target is at most the supply voltage (R164). -/
def Band.targetWithin (b : Band) (supplyMv : Nat) : Bool :=
  match b.output with
  | .mv t => decide (t ≤ supplyMv)
  | .const _ => true

/-- `BAUD` is positive (R10). -/
def Configuration.baudPositive (c : Configuration) : Bool :=
  decide (1 ≤ c.baud)

/-- `SUPPLY_MV` is at least 1 (R10, R164). -/
def Configuration.supplyPositive (c : Configuration) : Bool :=
  decide (1 ≤ c.supplyMv)

/-- `BANDS` is not empty (R161). -/
def Configuration.bandsNonEmpty (c : Configuration) : Bool :=
  !c.bands.isEmpty

/-- Every band's tolerances are at least 1 (R161). -/
def Configuration.tolerancesPositive (c : Configuration) : Bool :=
  c.bands.all Band.tolerancesPositive

/-- Every millivolt target is at most the supply voltage (R164). -/
def Configuration.targetsWithinSupply (c : Configuration) : Bool :=
  c.bands.all (·.targetWithin c.supplyMv)

/-- `IN_MIN < IN_MAX` (R166). -/
def Configuration.spanPositive (c : Configuration) : Bool :=
  decide (c.inMin < c.inMax)

end Sys2Proof
end

