-- ==== Sys2Proof/Machine/Operands.lean ====
section
/-! DEFINITION. How operands are assembled and numbers are read: the Tick, the signed width, the bits of a serial frame, the
bit interval, decimal text, and the bounds of the configuration. -/

namespace Sys2Proof.Machine

/-- `signed16(v)` (R12): the two's complement reading of a 16-bit value. -/
def signed16 (v : Tick) : Int :=
  if v.toNat < 32768 then (v.toNat : Int) else (v.toNat : Int) - 65536

/-- The Tick word of a high and a low byte, `256 * high + low` (R63, R80): a concatenation. -/
def composeTick (high low : Byte) : Tick := high ++ low

/-- `256 * hi + lo`, the Tick the two cells hold (R23). -/
def composedTick (s : State) : Tick := composeTick s.hi s.lo

/-- `tick_true = (256 * hi + lo + 256 * ovf_pending) mod 65536` (R117). -/
def tickTrue (s : State) : Tick :=
  composeTick s.hi s.lo + (if s.ovfPending then 256#16 else 0#16)

/-- The level of a data interval: `(d >> k) mod 2` for the number `k` of data bits already sent (R86, R182). -/
def dataLevel (d : Byte) (k : Nat) : Level := d.getLsbD k

/-- The ten levels of the frame of `d` in time order: start bit, `d[0]` to `d[7]`, stop bit (R85). -/
def frameLevels (d : Byte) : List Level :=
  [false, dataLevel d 0, dataLevel d 1, dataLevel d 2, dataLevel d 3, dataLevel d 4, dataLevel d 5, dataLevel d 6,
    dataLevel d 7, true]

/-- `BIT_US = 1_000_000 / BAUD` microseconds, the exact rational (R10, R280). -/
def bitUs (c : Configuration) : Rat := mkRat 1000000 c.baud

/-- The time of one byte, `10 * BIT_US` (R281). -/
def byteUs (c : Configuration) : Rat := 10 * bitUs c

/-- The transmission time of a line of `n` bytes, `10 * n * BIT_US` (R281). -/
def lineUs (c : Configuration) (n : Nat) : Rat := n * byteUs c

/-- The same time in ticks, `10 * n * BIT_US / TICK_US` (R281); `TICK_US` is an open parameter (R11), and where it is no
positive duration there is no answer. Log 25. -/
def lineTicks (c : Configuration) (n : Nat) : Option Rat :=
  if 0 < c.tickUs then some (lineUs c n / c.tickUs) else none

/-- The ASCII decimal digit `0x30 + n` (R88, R89, K1). Log 19. -/
def digitByte (n : Nat) : Byte := BitVec.ofNat 8 (0x30 + n)

/-- The decimal digits of `n`, most significant first, at most `fuel` of them. -/
def decimalDigits : Nat → Nat → List Byte
  | 0, _ => []
  | fuel + 1, n => if n < 10 then [digitByte n] else decimalDigits fuel (n / 10) ++ [digitByte (n % 10)]

/-- The unsigned decimal of `n`: no leading zero, no padding, 0 is `0` (R89, R90). -/
def decimal (n : Nat) : List Byte := decimalDigits (n + 1) n

/-- The signed decimal of `x`: `-` (0x2D) first if negative, then the digits of the absolute value (R89). -/
def signedDecimal (x : Int) : List Byte :=
  if x < 0 then 0x2D#8 :: decimal x.natAbs else decimal x.natAbs

/-- The bounds that R155 (e), R161, R164, R166 and U19 put on the configuration the classifier reads. Log 10. -/
def classifierConfigured (c : Configuration) : Bool :=
  c.bandsNonEmpty && c.tolerancesPositive && c.supplyPositive && c.targetsWithinSupply && c.spanPositive

/-- The bound that R10 puts on the configuration the transmitter reads. Log 11. -/
def transmitterConfigured (c : Configuration) : Bool := c.baudPositive

end Sys2Proof.Machine
end

