-- ==== Sys2Proof/Machine/Ops.lean ====
section
/-! DEFINITION. The shared operations: guards and refusal (R222, R227 to R229), the cell space (R61), interrupt entry and
return (R231, R233), driving the serial line for one bit interval (R180), and what RESET leaves (R250). -/

namespace Sys2Proof.Machine

/-- What `exec` and `step` answer. -/
abbrev Answer := Host.Outcome State Fault Refusal

/-- A condition that blocks an operation, with the reason it is refused for. -/
abbrev Check := Bool × Refusal

/-- The operation is refused for the first check that holds; if none does, it goes on to `k` (R14, R222). Which reason is
reported when several hold is free (R222); the order of the checks decides. Log 7. -/
def guarded : List Check → Answer → Answer
  | [], k => k
  | (blocks, reason) :: rest, k => if blocks then .refused reason else guarded rest k

/-- The checks of a handler micro-step: `ctx = EDGE`, `ec_phase` names it, no dispatch is enabled (R227, R228). -/
def microChecks (phase : EcPhase) (s : State) : List Check :=
  [(decide (s.ctx ≠ .edge), .wrongContext),
   (decide (s.ecPhase ≠ phase), .wrongPhase),
   (dispatchEnabled s, .dispatchPending)]

/-- The checks every main-context step shares: `ctx = MAIN` and no dispatch is enabled (R227 to R229). Log 8. -/
def mainChecks (s : State) : List Check :=
  [(decide (s.ctx ≠ .main), .wrongContext),
   (dispatchEnabled s, .dispatchPending)]

/-- The checks of a main-context operation other than the boot and TX steps: booted, and no byte in flight
(R187, R229). -/
def mainIdleChecks (s : State) : List Check :=
  (decide (s.bootPhase ≠ .run), .notBooted) :: mainChecks s ++ [(s.txBusy, .txBlocked)]

/-- The checks of a boot step: the boot order, then those of R229; a byte in flight blocks it too. Log 8. -/
def bootChecks (phase : BootPhase) (s : State) : List Check :=
  (decide (s.bootPhase ≠ phase), .bootOrder) :: mainChecks s ++ [(s.txBusy, .txBlocked)]

/-- The checks of TX.DATA and TX.STOP: booted, a byte in flight, and its position (R229). -/
def txStepChecks (outOfOrder : Bool) (s : State) : List Check :=
  (decide (s.bootPhase ≠ .run), .notBooted) :: mainChecks s ++
    [(!s.txBusy, .wrongPhase), (outOfOrder, .wrongPhase), (!transmitterConfigured s.cfg, .badConfiguration)]

/-- The seven cells of the cell table (R61). -/
inductive Cell where
  | lo
  | hi
  | tStart
  | tEnd
  | ready
  | duty
  | mode
  deriving DecidableEq, Repr

/-- The cell of an index of R61. -/
def cellOfIndex : Nat → Option Cell
  | 0 => some .lo
  | 1 => some .hi
  | 2 => some .tStart
  | 3 => some .tEnd
  | 4 => some .ready
  | 5 => some .duty
  | 6 => some .mode
  | _ => none

/-- The size column of R61, in bytes. -/
def cellSize : Cell → Nat
  | .tStart | .tEnd => 2
  | .lo | .hi | .ready | .duty | .mode => 1

/-- The bits-used column of R61. -/
def cellBits : Cell → Nat
  | .lo | .hi | .duty => 8
  | .tStart | .tEnd => 16
  | .ready => 1
  | .mode => 2

/-- The whole value of a cell (R61). -/
def readCell (s : State) : Cell → Nat
  | .lo => s.lo.toNat
  | .hi => s.hi.toNat
  | .tStart => s.tStart.toNat
  | .tEnd => s.tEnd.toNat
  | .ready => s.ready.toNat
  | .duty => s.duty.toNat
  | .mode => s.mode.toNat

/-- The state with a cell's whole value replaced (R61). -/
def writeCell (s : State) (c : Cell) (v : Nat) : State :=
  match c with
  | .lo => { s with lo := BitVec.ofNat 8 v }
  | .hi => { s with hi := BitVec.ofNat 8 v }
  | .tStart => { s with tStart := BitVec.ofNat 16 v }
  | .tEnd => { s with tEnd := BitVec.ofNat 16 v }
  | .ready => { s with ready := decide (v % 2 = 1) }
  | .duty => { s with duty := BitVec.ofNat 8 v }
  | .mode => { s with mode := BitVec.ofNat 2 v }

/-- `MemRead(c, n)` (R13, R61): defined only for a cell of the table and its own size. -/
def memRead (s : State) (index n : Nat) : Option Nat :=
  match cellOfIndex index with
  | none => none
  | some c => if n = cellSize c then some (readCell s c) else none

/-- `MemWrite(c, n, v)` (R13, R61): as `memRead`, for a value that the cell's bits hold. Log 17. -/
def memWrite (s : State) (index n v : Nat) : Option State :=
  match cellOfIndex index with
  | none => none
  | some c => if n = cellSize c ∧ v < 2 ^ cellBits c then some (writeCell s c v) else none

/-- Entry to the edge handler (R231): the latch and the gate are cleared, the context and the phase are set, and nothing is
saved; every other field is left as it is. -/
def enterEdgeHandler (s : State) : State :=
  { s with edgePending := false, ie := false, ctx := .edge, ecPhase := .sei }

/-- Return from the edge handler (R233): the main context goes on and delivery is enabled. -/
def returnFromEdgeHandler (s : State) : State :=
  { s with ctx := .main, ie := true }

/-- Entry to, body of and return from the overflow handler, one step (R232). -/
def overflowHandler (s : State) : State :=
  { s with hi := s.hi + 1#8, ovfPending := false }

/-- Drive the serial line to a level and hold it for one bit interval (R180, R188). -/
def sendLevel (v : Level) (s : State) : State :=
  { s with txd := v, wave := s.wave ++ [(v, bitUs s.cfg)] }

/-- What RESET leaves (R250): the stated values; a free value in each field that is unspecified, a draw or OPEN (log 6);
`pin` as the outside world holds it; the configuration and the schedule, which are no state of the block. -/
def powerOn (s : State) : State where
  lo := Config.loAtReset s.draws
  hi := 0
  tStart := 0
  tEnd := 0
  loSnap := Config.loSnapAtReset s.draws
  hiSnap := Config.hiSnapAtReset s.draws
  snap := Config.snapAtReset s.draws
  lvl := Config.lvlAtReset s.draws
  r := Config.rAtReset s.draws
  cs := Config.csAtReset s.draws
  ce := Config.ceAtReset s.draws
  w := Config.wAtReset s.draws
  band := Config.bandAtReset s.draws
  dnew := Config.dnewAtReset s.draws
  line := Config.lineAtReset s.draws
  txSr := Config.txSrAtReset s.draws
  txIdx := 0
  ready := false
  ovfPending := false
  edgePending := false
  txBusy := false
  ie := false
  ctx := .main
  loopState := .idle
  mode := Config.modeAtReset s.draws
  duty := Config.dutyAtReset s.draws
  ecPhase := Config.ecPhaseAtReset s.draws
  mlPhase := .poll
  bootPhase := .sample
  pin := s.pin
  txd := true
  wave := []
  pwmLog := []
  ticks := 0
  reportActive := false
  cfg := s.cfg
  schedule := s.schedule
  draws := s.draws + 1

end Sys2Proof.Machine
end

