-- ==== Sys2Proof/Machine/Boot.lean ====
section
/-! DEFINITION. Reset and boot (spec/70_reset_and_hazards.md): RESET, BOOT.MODE, BOOT.START. -/

namespace Sys2Proof.Machine

/-- RESET (R250): always enabled. -/
def execReset (s : State) : Answer := .next (powerOn s)

/-- BOOT.MODE m (R251). -/
def execBootMode (m : BitVec 2) (s : State) : Answer :=
  guarded (bootChecks .sample s) (.next { s with mode := m, bootPhase := .start })

/-- BOOT.START (R252). -/
def execBootStart (s : State) : Answer :=
  guarded (bootChecks .start s) (.next { s with ie := true, bootPhase := .run, mlPhase := .poll })

end Sys2Proof.Machine
end

