-- ==== Sys2Proof/Machine/Classifier.lean ====
section
/-! DEFINITION. The Classifier / Duty Mapper (spec/43_classifier.md): its functions, ML.CLASSIFY and ML.PWMWR. -/

namespace Sys2Proof.Machine

/-- The lower edge of a band's window, `center - lower_tol` (R162). -/
def lowerEdge (b : Band) : Int := b.center - b.lowerTol

/-- The upper edge of a band's window, `center + upper_tol` (R162). -/
def upperEdge (b : Band) : Int := b.center + b.upperTol

/-- `in_window(b, x)` (R162): both edges are outside. -/
def inWindow (b : Band) (x : Int) : Bool :=
  decide (lowerEdge b < x) && decide (x < upperEdge b)

/-- `classify_band(x)` (R163): the first band in table order whose window holds `x`; else below when `x` is at most the
least lower edge, above when it is at least the greatest upper edge, between otherwise. -/
def classifyBand (bands : List Band) (x : Int) : BandValue :=
  match bands.find? (fun b => inWindow b x) with
  | some b => .inBand b
  | none =>
    if bands.any (fun b => decide (lowerEdge b < x)) then
      if bands.any (fun b => decide (x < upperEdge b)) then .out .between else .out .above
    else .out .below

/-- `duty_from_mv(t, s) = (255 * t + s / 2) / s` for `s >= 1` and `t <= s` (R164); refused outside those bounds. -/
def dutyFromMv (t s : Nat) : Option Byte :=
  if 1 ≤ s ∧ t ≤ s then some (BitVec.ofNat 8 ((255 * t + s / 2) / s)) else none

/-- `band_duty(b)` (R165). -/
def bandDuty (c : Configuration) (b : Band) : Option Byte :=
  match b.output with
  | .mv t => dutyFromMv t c.supplyMv
  | .const d => some d

/-- `xc = min(max(x, IN_MIN), IN_MAX)` (R166). -/
def clampToSpan (c : Configuration) (x : Int) : Int := min (max x c.inMin) c.inMax

/-- `remap(x) = ((xc - IN_MIN) * 255 + span / 2) / span` for `IN_MIN < IN_MAX` (R166); refused outside that bound. -/
def remap (c : Configuration) (x : Int) : Option Byte :=
  if c.inMin < c.inMax then
    let span := (c.inMax - c.inMin).toNat
    some (BitVec.ofNat 8 (((clampToSpan c x - c.inMin).toNat * 255 + span / 2) / span))
  else none

/-- The Band value and the candidate duty of a width (R160, R167). `old` is the `dnew` that an out-of-range width leaves
unchanged; `none` when the configuration is outside its bounds. -/
def classify (c : Configuration) (x : Int) (old : Byte) : Option (BandValue × Byte) :=
  if classifierConfigured c then
    match c.mapPolicy with
    | .continuous => (remap c x).map fun d => (.none, d)
    | .banded =>
      match classifyBand c.bands x with
      | .inBand b => (bandDuty c b).map fun d => (.inBand b, d)
      | v => some (v, old)
  else none

/-- ML.CLASSIFY (R167). -/
def execMlClassify (s : State) : Answer :=
  guarded (mainIdleChecks s)
    (match classify s.cfg (signed16 s.w) s.dnew with
     | none => .refused .badConfiguration
     | some (v, d) => .next { s with band := v, dnew := d, mlPhase := .pwmwr })

/-- What ML.PWMWR writes into the compare register, if it writes (R168). A Band value that is not `in(b)` under the banded
policy takes the out-of-range policy. -/
def dutyToWrite (s : State) : Option Byte :=
  match s.cfg.mapPolicy, s.band with
  | .continuous, _ => some s.dnew
  | .banded, .inBand _ => some s.dnew
  | .banded, _ =>
    match s.cfg.oorPolicy with
    | .toDefault => some s.cfg.defaultDuty
    | .hold => none

/-- The state after the compare register is written, or not (R168). -/
def writeDuty (s : State) : Option Byte → State
  | some d => { s with duty := d, pwmLog := s.pwmLog ++ [d], mlPhase := .report }
  | none => { s with mlPhase := .report }

/-- ML.PWMWR (R168). -/
def execMlPwmwr (s : State) : Answer :=
  guarded (mainIdleChecks s) (.next (writeDuty s (dutyToWrite s)))

end Sys2Proof.Machine
end

