-- ==== Sys2Proof/Machine/Clock.lean ====
section
/-! DEFINITION. The Extended Free-Running Clock (spec/40_clock.md): TICK, OVF.ISR and the four micro-steps of NOW. -/

namespace Sys2Proof.Machine

/-- TICK (R111): always enabled. -/
def execTick (s : State) : Answer :=
  .next { s with
    lo := s.lo + 1#8
    ovfPending := overflowLatch s.lo s.ovfPending
    ticks := s.ticks + 1 }

/-- OVF.ISR (R112, R230, R232): the latch set, delivery enabled, and the priority allowing it. -/
def execOvfIsr (s : State) : Answer :=
  guarded [(!overflowDispatchable s, .noLatch), (overflowHeldBack s, .dispatchPending)]
    (.next (overflowHandler s))

/-- NOW.SEI (R113). -/
def execNowSei (s : State) : Answer :=
  guarded (microChecks .sei s) (.next { s with ie := true, ecPhase := .rdlo })

/-- NOW.RDLO (R114). -/
def execNowRdlo (s : State) : Answer :=
  guarded (microChecks .rdlo s) (.next { s with loSnap := s.lo, ecPhase := .cli })

/-- NOW.CLI (R115). -/
def execNowCli (s : State) : Answer :=
  guarded (microChecks .cli s) (.next { s with ie := false, ecPhase := .rdhi })

/-- NOW.RDHI (R116): the high byte is read and the snapshot composed. -/
def execNowRdhi (s : State) : Answer :=
  guarded (microChecks .rdhi s)
    (.next { s with hiSnap := s.hi, snap := composeTick s.hi s.loSnap, ecPhase := .rdpin })

end Sys2Proof.Machine
end

