-- ==== Sys2Proof/Machine/EdgeCapture.lean ====
section
/-! DEFINITION. Edge Capture (spec/41_edge_capture.md): PIN, EC.ENTER, EC.RDPIN, EC.STORE, EC.RET. -/

namespace Sys2Proof.Machine

/-- PIN v (R131): always enabled; a transition follows `v` and sets the latch in IDLE only. -/
def execPin (v : Level) (s : State) : Answer :=
  .next { s with pin := v, edgePending := edgeLatch s.pin v s.loopState s.edgePending }

/-- EC.ENTER (R132, R230, R231). -/
def execEcEnter (s : State) : Answer :=
  guarded
    [(decide (s.ctx ≠ .main), .wrongContext), (!edgeDispatchable s, .noLatch), (edgeHeldBack s, .dispatchPending)]
    (.next (enterEdgeHandler s))

/-- EC.RDPIN (R133). -/
def execEcRdpin (s : State) : Answer :=
  guarded (microChecks .rdpin s) (.next { s with lvl := s.pin, ecPhase := .store })

/-- EC.STORE (R134): a falling edge files the start, a rising edge the end, and each drives the Ready Signal. -/
def execEcStore (s : State) : Answer :=
  guarded (microChecks .store s)
    (.next { s with
      tStart := if s.lvl then s.tStart else s.snap
      tEnd := if s.lvl then s.snap else s.tEnd
      ready := readyFromLevel s.lvl
      ecPhase := .ret })

/-- EC.RET (R135, R233). -/
def execEcRet (s : State) : Answer :=
  guarded (microChecks .ret s) (.next (returnFromEdgeHandler s))

end Sys2Proof.Machine
end

