-- ==== Sys2Proof/Machine/MainLoop.lean ====
section
/-! DEFINITION. The Main Control Loop and the critical section (spec/45_main_loop.md): ML.POLL, ML.SUSPEND, ML.CLRRDY,
ML.RESUME, CS.ENTER, CS.LEAVE. -/

namespace Sys2Proof.Machine

/-- ML.POLL (R201). -/
def execMlPoll (s : State) : Answer :=
  guarded (mainIdleChecks s ++ [(decide (s.loopState ≠ .idle), .notIdle)])
    (.next { s with r := s.ready, mlPhase := if s.ready then .suspend else .poll })

/-- ML.SUSPEND (R202): it does not read `ready` again. -/
def execMlSuspend (s : State) : Answer :=
  guarded
    (mainIdleChecks s ++
      [(decide (s.loopState ≠ .idle), .notIdle), (!s.ie, .nestedCriticalSection), (!s.r, .notObserved)])
    (.next { s with ie := false, loopState := .reporting, mlPhase := .claim })

/-- ML.CLRRDY (R204, R212 b). -/
def execMlClrrdy (s : State) : Answer :=
  guarded (mainIdleChecks s ++ [(s.ie, .needsCriticalSection)])
    (.next { s with ready := false, mlPhase := .resume })

/-- ML.RESUME (R205). -/
def execMlResume (s : State) : Answer :=
  guarded (mainIdleChecks s ++ [(decide (s.loopState ≠ .reporting), .notReporting)])
    (.next { s with loopState := .idle, ie := true, mlPhase := .poll })

/-- CS.ENTER (R206). -/
def execCsEnter (s : State) : Answer :=
  guarded
    (mainIdleChecks s ++ [(decide (s.loopState ≠ .idle), .notIdle), (!s.ie, .nestedCriticalSection)])
    (.next { s with ie := false })

/-- CS.LEAVE (R207). -/
def execCsLeave (s : State) : Answer :=
  guarded
    (mainIdleChecks s ++ [(decide (s.loopState ≠ .idle), .notIdle), (s.ie, .notInCriticalSection)])
    (.next { s with ie := true })

end Sys2Proof.Machine
end

