-- ==== Sys2Proof/Machine/SerialTx.lean ====
section
/-! DEFINITION. The Bit-Banged Serial Transmitter (spec/44_serial_tx.md): TX.START, TX.DATA, TX.STOP, and what an observer
of the line reads. -/

namespace Sys2Proof.Machine

/-- TX.START d (R181): refused in a short critical section (`ie = 0` in IDLE). -/
def execTxStart (d : Byte) (s : State) : Answer :=
  guarded
    (mainIdleChecks s ++
      [(!s.ie && decide (s.loopState = .idle), .blockingInCriticalSection),
       (!transmitterConfigured s.cfg, .badConfiguration)])
    (.next (sendLevel false { s with txSr := d, txIdx := 0, txBusy := true }))

/-- TX.DATA (R182): the bit `tx_idx` of `tx_sr`, which is not shifted. -/
def execTxData (s : State) : Answer :=
  guarded (txStepChecks (decide (7 < s.txIdx.val)) s)
    (.next { sendLevel (dataLevel s.txSr s.txIdx.val) s with txIdx := s.txIdx + 1 })

/-- TX.STOP (R183). -/
def execTxStop (s : State) : Answer :=
  guarded (txStepChecks (decide (s.txIdx.val ≠ 8)) s)
    (.next { sendLevel true s with txBusy := false, txIdx := 0 })

/-- The entries one frame appends to `wave` (R184). -/
def frameWave (c : Configuration) (d : Byte) : List (Level × Rat) :=
  (frameLevels d).map fun v => (v, bitUs c)

/-- The entries a string of bytes appends to `wave`, first byte first (R185). -/
def printWave (c : Configuration) : List Byte → List (Level × Rat)
  | [] => []
  | d :: ds => frameWave c d ++ printWave c ds

/-- The waveform on the pin (R186): consecutive entries of equal level merged, their durations added. -/
def waveform : List (Level × Rat) → List (Level × Rat)
  | [] => []
  | (v, t) :: rest =>
    match waveform rest with
    | (v', t') :: more => if v = v' then (v, t + t') :: more else (v, t) :: (v', t') :: more
    | [] => [(v, t)]

/-- The byte whose bit `k` is the level of the data interval `k + 1` (R86). -/
def byteOfLevels (d0 d1 d2 d3 d4 d5 d6 d7 : Level) : Byte :=
  BitVec.ofBool d7 ++ BitVec.ofBool d6 ++ BitVec.ofBool d5 ++ BitVec.ofBool d4 ++ BitVec.ofBool d3 ++
    BitVec.ofBool d2 ++ BitVec.ofBool d1 ++ BitVec.ofBool d0

/-- What a receiver that samples the middle of each bit interval reads (R186): frame by frame, a start bit at 0, eight data
bits, a stop bit at 1; `none` for anything else. Log 20. -/
def receive : List Level → Option (List Byte)
  | [] => some []
  | false :: d0 :: d1 :: d2 :: d3 :: d4 :: d5 :: d6 :: d7 :: true :: rest =>
    (receive rest).map fun ds => byteOfLevels d0 d1 d2 d3 d4 d5 d6 d7 :: ds
  | _ => none

end Sys2Proof.Machine
end

