-- ==== Sys2Proof/Machine/WidthExtractor.lean ====
section
/-! DEFINITION. The Pulse Width Extractor (spec/42_width_extractor.md): ML.CLAIM, ML.WIDTH. -/

namespace Sys2Proof.Machine

/-- ML.CLAIM (R151, R212 a): both timestamps are copied out and cleared, only with `ie = 0`. -/
def execMlClaim (s : State) : Answer :=
  guarded (mainIdleChecks s ++ [(s.ie, .needsCriticalSection)])
    (.next { s with cs := s.tStart, ce := s.tEnd, tStart := 0#16, tEnd := 0#16, mlPhase := .width })

/-- ML.WIDTH (R152): the subtraction modulo 65536. -/
def execMlWidth (s : State) : Answer :=
  guarded (mainIdleChecks s) (.next { s with w := s.ce - s.cs, mlPhase := .classify })

end Sys2Proof.Machine
end

