-- ==== Sys2Proof/Machine/Dispatch.lean ====
section
/-! DEFINITION. The dispatch of an operation to its meaning, one arm per row of spec/30_encoding.md R100. -/

namespace Sys2Proof.Machine

def exec (i : Instr) (s : State) : Host.Outcome State Fault Refusal :=
  match i with
  | .reset => Sys2Proof.Machine.execReset s
  | .tick => Sys2Proof.Machine.execTick s
  | .ovfIsr => Sys2Proof.Machine.execOvfIsr s
  | .nowSei => Sys2Proof.Machine.execNowSei s
  | .nowRdlo => Sys2Proof.Machine.execNowRdlo s
  | .nowCli => Sys2Proof.Machine.execNowCli s
  | .nowRdhi => Sys2Proof.Machine.execNowRdhi s
  | .pin v => Sys2Proof.Machine.execPin v s
  | .ecEnter => Sys2Proof.Machine.execEcEnter s
  | .ecRdpin => Sys2Proof.Machine.execEcRdpin s
  | .ecStore => Sys2Proof.Machine.execEcStore s
  | .ecRet => Sys2Proof.Machine.execEcRet s
  | .mlClaim => Sys2Proof.Machine.execMlClaim s
  | .mlWidth => Sys2Proof.Machine.execMlWidth s
  | .mlClassify => Sys2Proof.Machine.execMlClassify s
  | .mlPwmwr => Sys2Proof.Machine.execMlPwmwr s
  | .txStart d => Sys2Proof.Machine.execTxStart d s
  | .txData => Sys2Proof.Machine.execTxData s
  | .txStop => Sys2Proof.Machine.execTxStop s
  | .mlPoll => Sys2Proof.Machine.execMlPoll s
  | .mlSuspend => Sys2Proof.Machine.execMlSuspend s
  | .mlClrrdy => Sys2Proof.Machine.execMlClrrdy s
  | .mlResume => Sys2Proof.Machine.execMlResume s
  | .csEnter => Sys2Proof.Machine.execCsEnter s
  | .csLeave => Sys2Proof.Machine.execCsLeave s
  | .bootMode m => Sys2Proof.Machine.execBootMode m s
  | .bootStart => Sys2Proof.Machine.execBootStart s

end Sys2Proof.Machine
end

