-- ==== Sys2Proof/Machine/Report.lean ====
section
/-! DEFINITION. The diagnostic line (spec/30_encoding.md R87 to R91) and the pseudo-operation ML.REPORT
(spec/45_main_loop.md R203), which has no command word: its first element, and what it does to `line` and `ml_phase` as the
rest of its expansion runs. -/

namespace Sys2Proof.Machine

/-- `<TAB>` (R91). -/
def tabByte : Byte := 0x09#8

/-- `<CR> <LF>` (R91). -/
def endOfLine : List Byte := [0x0D#8, 0x0A#8]

/-- `<band-or-duty>` (R90): the band's code or `OOR_TEXT` under the banded policy, the decimal of `dnew` under the
continuous one. R90 states no text for a Band value `none` under the banded policy: a free value (log 23). -/
def bandOrDuty (c : Configuration) (band : BandValue) (dnew : Byte) : List Byte :=
  match c.mapPolicy with
  | .continuous => decimal dnew.toNat
  | .banded =>
    match band with
    | .inBand b => b.code
    | .out _ => c.oorText
    | .none => Config.noBandText dnew

/-- The diagnostic line (R87): mode digit, TAB, signed decimal width, TAB, band or duty, CR, LF. -/
def diagnosticLine (c : Configuration) (mode : BitVec 2) (w : Tick) (band : BandValue) (dnew : Byte) : List Byte :=
  digitByte mode.toNat :: tabByte ::
    (signedDecimal (signed16 w) ++ tabByte :: (bandOrDuty c band dnew ++ endOfLine))

/-- The line ML.REPORT would send from a state (R203). -/
def lineOf (s : State) : List Byte := diagnosticLine s.cfg s.mode s.w s.band s.dnew

/-- ML.REPORT is under way, or the canonical loop is at its place: `loop_state = REPORTING`, and an expansion has begun or
`ml_phase = REPORT` (R203). -/
def inReport (s : State) : Bool :=
  decide (s.loopState = .reporting) && (s.reportActive || decide (s.mlPhase = .report))

/-- `line <-`, the first element of ML.REPORT (R203): refused in IDLE (`not_reporting`, R222), and wherever a main-context
operation is (R229). It needs no `ml_phase`, which only the canonical loop narrows (R203, R229). -/
def mlReport (s : State) : Answer :=
  guarded (mainIdleChecks s ++ [(decide (s.loopState = .idle), .notReporting)])
    (.next { s with line := lineOf s, reportActive := true })

/-- The bytes ML.REPORT has still to send: those left in `line` once it has begun; the whole line where the canonical loop
is about to begin it. Log 13. -/
def reportBytes (s : State) : List Byte :=
  if s.reportActive && !s.line.isEmpty then s.line
  else if s.mlPhase = .report then lineOf s
  else []

/-- A frame starts (R203): if its byte is the next of the report, the byte leaves `line`, which keeps the bytes not yet sent;
any other frame is no part of a report and ends one. Log 12, log 13. -/
def reportByteStarted (d : Byte) (t : State) : State :=
  if t.loopState = .reporting ∧ (reportBytes t).head? = some d then
    { t with line := (reportBytes t).tail, reportActive := true }
  else { t with reportActive := false }

/-- A frame ends (R203): after the last TX.STOP of a report `ml_phase` becomes CLRRDY. -/
def reportByteSent (t : State) : State :=
  if t.loopState = .reporting ∧ t.reportActive = true ∧ t.line = [] then
    { t with mlPhase := .clrrdy, reportActive := false }
  else t

/-- ML.REPORT's own writes beside those of the operations it expands to (R203), made in the state `t` that operation `i`
leaves. The operations of other agents may fall between two elements of the expansion (R103) and leave it as it is; a
main-context operation that is no element of it ends it. Log 12. -/
def reportProgress (i : Instr) (t : State) : State :=
  match i with
  | .txStart d => reportByteStarted d t
  | .txStop => reportByteSent t
  | .txData | .reset | .tick | .pin _ | .ovfIsr | .ecEnter => t
  | .nowSei | .nowRdlo | .nowCli | .nowRdhi | .ecRdpin | .ecStore | .ecRet => t
  | .mlClaim | .mlWidth | .mlClassify | .mlPwmwr => { t with reportActive := false }
  | .mlPoll | .mlSuspend | .mlClrrdy | .mlResume => { t with reportActive := false }
  | .csEnter | .csLeave | .bootMode _ | .bootStart => { t with reportActive := false }

/-- One operation as a step takes it: its meaning, then ML.REPORT's own writes. -/
def runOp (i : Instr) (s : State) : Answer :=
  match exec i s with
  | .next t => .next (reportProgress i t)
  | .fault f => .fault f
  | .refused r => .refused r

/-- A sequence of operations, stopping at the first that is refused. -/
def runOps : List Instr → State → Answer
  | [], s => .next s
  | i :: is, s =>
    match runOp i s with
    | .next t => runOps is t
    | .fault f => .fault f
    | .refused r => .refused r

end Sys2Proof.Machine
end

