-- ==== Sys2Proof/Machine/Pseudo.lean ====
section
/-! DEFINITION. The six pseudo-operations of spec/30_encoding.md R103 as the sequences they expand to: the processor's own
order, between whose elements other agents' operations may be interleaved. -/

namespace Sys2Proof.Machine

/-- NOW (R117). -/
def nowOps : List Instr := [.nowSei, .nowRdlo, .nowCli, .nowRdhi]

/-- EDGE.ISR (R136). -/
def edgeIsrOps : List Instr := .ecEnter :: nowOps ++ [.ecRdpin, .ecStore, .ecRet]

/-- TXB d (R184). -/
def txbOps (d : Byte) : List Instr :=
  [.txStart d, .txData, .txData, .txData, .txData, .txData, .txData, .txData, .txData, .txStop]

/-- PRINT of a string of bytes (R185). -/
def printOps : List Byte → List Instr
  | [] => []
  | d :: ds => txbOps d ++ printOps ds

/-- A sequence of operations presented turn by turn. -/
def wordTurns (is : List Instr) : List Turn := is.map fun i => .word (encode i)

/-- ML.REPORT from a state (R203): `line <-`, then PRINT of the line. -/
def reportTurns (s : State) : List Turn := .report :: wordTurns (printOps (lineOf s))

/-- ML.ITER (R208) with the polled value `r` and a state whose `mode`, `w`, `band` and `dnew` are those it reports. -/
def iterTurns (r : Level) (s : State) : List Turn :=
  if r then
    wordTurns [.mlPoll, .mlSuspend, .mlClaim, .mlWidth, .mlClassify, .mlPwmwr] ++ reportTurns s ++
      wordTurns [.mlClrrdy, .mlResume]
  else wordTurns [.mlPoll]

end Sys2Proof.Machine
end

