-- ==== Sys2Proof/Machine/Canonical.lean ====
section
/-! DEFINITION. A turn: an operation presented as a command word, the step that the dispatcher and the processor running the
canonical loop take by themselves, or a free choice where nothing is placed (spec/45_main_loop.md R208; spec/60_exceptions.md R227 to R230). -/

namespace Sys2Proof.Machine

/-- The micro-step named by `ec_phase` (R228). -/
def microStep : EcPhase → Instr
  | .sei => .nowSei
  | .rdlo => .nowRdlo
  | .cli => .nowCli
  | .rdhi => .nowRdhi
  | .rdpin => .ecRdpin
  | .store => .ecStore
  | .ret => .ecRet

/-- Both latches may be dispatched and the priority does not choose (R230). -/
def choiceOpen (s : State) : Bool :=
  overflowDispatchable s && edgeDispatchable s && decide (s.cfg.irqPriority = .either)

/-- The dispatch that is taken while one is enabled (R227, R230). With `IRQ_PRIORITY = either` and both latches set the
choice is free. Log 15. -/
def dispatchOp (s : State) : Instr :=
  if overflowDispatchable s && edgeDispatchable s then
    match s.cfg.irqPriority with
    | .ovfFirst => .ovfIsr
    | .edgeFirst => .ecEnter
    | .either => if Config.overflowServedFirst s.draws then .ovfIsr else .ecEnter
  else if overflowDispatchable s then .ovfIsr
  else .ecEnter

/-- The main-context operation named by `ml_phase` (R208, R229); in REPORT the start of the next byte of the line, which is
refused in IDLE (R203, R222). -/
def loopOp (s : State) : Except Refusal Instr :=
  match s.mlPhase with
  | .poll => .ok .mlPoll
  | .suspend => .ok .mlSuspend
  | .claim => .ok .mlClaim
  | .width => .ok .mlWidth
  | .classify => .ok .mlClassify
  | .pwmwr => .ok .mlPwmwr
  | .report =>
    match s.loopState, reportBytes s with
    | .reporting, d :: _ => .ok (.txStart d)
    | _, _ => .error .notReporting
  | .clrrdy => .ok .mlClrrdy
  | .resume => .ok .mlResume

/-- The step of the dispatcher and the processor under the canonical loop: a dispatch while one is enabled, else the
handler's micro-step, else the boot order (BOOT.MODE with the configured `MODE`, log 14), else the next TX step, else the
loop's operation (R227 to R229, R253). -/
def canonicalOp (s : State) : Except Refusal Instr :=
  if dispatchEnabled s then .ok (dispatchOp s)
  else
    match s.ctx, s.bootPhase with
    | .edge, _ => .ok (microStep s.ecPhase)
    | .main, .sample => .ok (.bootMode s.cfg.modeJumpers)
    | .main, .start => .ok .bootStart
    | .main, .run =>
      if s.txBusy then .ok (if s.txIdx.val = 8 then .txStop else .txData)
      else loopOp s

/-- A canonical turn. A free choice of the dispatcher uses up one draw. -/
def canonicalTurn (s : State) : Answer :=
  match canonicalOp s with
  | .ok i => runOp i (if choiceOpen s then { s with draws := s.draws + 1 } else s)
  | .error r => .refused r

/-- A turn in which a command word is presented: refused if it is invalid (R101), else the operation it stands for. -/
def presentWord (w : CommandWord) (s : State) : Answer :=
  match decode w with
  | .ok i => runOp i s
  | .error _ => .refused .invalidWord

/-- A turn: a presented word, ML.REPORT's first element, or a canonical turn. Log 1. -/
def takeTurn : Turn → State → Answer
  | .word w, s => presentWord w s
  | .report, s => mlReport s
  | .canonical, s => canonicalTurn s

/-- A turn where none is placed: the free choice `Config.freeTurn`, which uses up one draw. A choice that is not enabled has no
step (R14, R222), and the counter, which may step in any state (R16), takes the turn: a run has no end, and no fairness is built
in (R283). Log 24. -/
def freeStep (s : State) : Answer :=
  match takeTurn (Config.freeTurn s.draws) { s with draws := s.draws + 1 } with
  | .next t => .next t
  | .fault f => .fault f
  | .refused _ => runOp .tick { s with draws := s.draws + 1 }

end Sys2Proof.Machine
end

