-- ==== Sys2Proof/Machine/Step.lean ====
section
/-! DEFINITION. One step: the next turn of the schedule; a free turn where nothing is scheduled (log 1, log 24). -/

namespace Sys2Proof.Machine

/-- One step of the machine. -/
def step (s : State) : Host.Outcome State Fault Refusal :=
  match s.schedule with
  | [] => freeStep s
  | turn :: rest => takeTurn turn { s with schedule := rest }

/-- `s` with the command word of an opcode-table row presented as the next turn. -/
def State.withFetchWord (s : State) (nbits w : Nat) : State :=
  { s with schedule := .word (tableWord nbits w) :: s.schedule }

end Sys2Proof.Machine
end

