-- ==== Sys2Proof/Safety.lean ====
section
/-! DEFINITION. What counts as a good state and an enabled operation, in the terms the statements use: the invariants of
spec/10_state.md R45, the enabling conditions of spec/60_exceptions.md R226 to R229, and the position of the canonical loop
(spec/45_main_loop.md R208). -/

namespace Sys2Proof.Machine

/-- The invariants of a reachable state (R45). Clause (c) is in two parts here: the bound on `tx_idx` is its type, and which
operations are enabled while `tx_busy = 1` is a statement about `exec`. -/
structure StateInv (s : State) : Prop where
  /-- (a) in the handler delivery is enabled exactly in the window -/
  window : s.ctx = .edge → (s.ie = true ↔ s.ecPhase = .rdlo ∨ s.ecPhase = .cli)
  /-- (b) suspension holds delivery and drops edges -/
  suspension : s.loopState = .reporting → s.ie = false ∧ s.ctx = .main ∧ s.edgePending = false
  /-- (d) the line idles high -/
  idleHigh : s.txBusy = false → s.txd = true
  /-- (e) the handler runs in IDLE only -/
  handlerInIdle : s.ctx = .edge → s.loopState = .idle
  /-- (f) before BOOT.START nothing is enabled, pending or in flight -/
  notBooted : s.bootPhase ≠ .run →
    s.ie = false ∧ s.ctx = .main ∧ s.loopState = .idle ∧ s.txBusy = false ∧ s.ready = false

/-- `ctx = MAIN`, no dispatch enabled, booted, no byte in flight: what every main-context operation other than the boot and
TX steps needs (R229). -/
def MainReady (s : State) : Prop :=
  s.ctx = .main ∧ dispatchEnabled s = false ∧ s.bootPhase = .run ∧ s.txBusy = false

/-- The handler's micro-step of a phase is next and no dispatch is enabled (R228). -/
def MicroReady (p : EcPhase) (s : State) : Prop :=
  s.ctx = .edge ∧ s.ecPhase = p ∧ dispatchEnabled s = false

/-- A boot step may run: its place in the boot order, `ctx = MAIN`, nothing in flight, no dispatch (R229, R251, R252). -/
def BootReady (p : BootPhase) (s : State) : Prop :=
  s.bootPhase = p ∧ s.ctx = .main ∧ dispatchEnabled s = false ∧ s.txBusy = false

/-- A byte is in flight and the main context may go on with it (R229). -/
def TxReady (s : State) : Prop :=
  s.ctx = .main ∧ dispatchEnabled s = false ∧ s.bootPhase = .run ∧ s.txBusy = true ∧ 1 ≤ s.cfg.baud

/-- The enabling condition of every operation: its own "Enabled when" with R226 to R229, and the bounds of the configuration
where it reads one (U19). -/
def Enabled (s : State) : Instr → Prop
  | .reset | .tick | .pin _ => True
  | .ovfIsr =>
    s.ie = true ∧ s.ovfPending = true ∧
      ¬(s.cfg.irqPriority = .edgeFirst ∧ s.edgePending = true ∧ s.ctx = .main)
  | .ecEnter =>
    s.ie = true ∧ s.edgePending = true ∧ s.ctx = .main ∧
      ¬(s.cfg.irqPriority = .ovfFirst ∧ s.ovfPending = true)
  | .nowSei => MicroReady .sei s
  | .nowRdlo => MicroReady .rdlo s
  | .nowCli => MicroReady .cli s
  | .nowRdhi => MicroReady .rdhi s
  | .ecRdpin => MicroReady .rdpin s
  | .ecStore => MicroReady .store s
  | .ecRet => MicroReady .ret s
  | .mlClaim => MainReady s ∧ s.ie = false
  | .mlWidth => MainReady s
  | .mlClassify => MainReady s ∧ classifierConfigured s.cfg = true
  | .mlPwmwr => MainReady s
  | .txStart _ => MainReady s ∧ (s.ie = true ∨ s.loopState = .reporting) ∧ 1 ≤ s.cfg.baud
  | .txData => TxReady s ∧ s.txIdx.val ≤ 7
  | .txStop => TxReady s ∧ s.txIdx.val = 8
  | .mlPoll => MainReady s ∧ s.loopState = .idle
  | .mlSuspend => MainReady s ∧ s.loopState = .idle ∧ s.ie = true ∧ s.r = true
  | .mlClrrdy => MainReady s ∧ s.ie = false
  | .mlResume => MainReady s ∧ s.loopState = .reporting
  | .csEnter => MainReady s ∧ s.loopState = .idle ∧ s.ie = true
  | .csLeave => MainReady s ∧ s.loopState = .idle ∧ s.ie = false
  | .bootMode _ => BootReady .sample s
  | .bootStart => BootReady .start s

/-- Where a run of the canonical loop can be (R208): the position `ml_phase` agrees with `loop_state`, `r`, `tx_busy`,
`boot_phase`, `ie` and the report under way. -/
structure LoopInv (s : State) : Prop where
  /-- only ML.REPORT transmits -/
  sending : s.txBusy = true → s.loopState = .reporting ∧ s.mlPhase = .report
  /-- IDLE is POLL or SUSPEND, REPORTING is everything from CLAIM to RESUME -/
  position : s.loopState = .idle ↔ s.mlPhase = .poll ∨ s.mlPhase = .suspend
  /-- the loop suspends only on an observed Ready Signal -/
  observed : s.mlPhase = .suspend → s.r = true
  /-- the loop has not begun before BOOT.START -/
  booting : s.bootPhase ≠ .run → s.mlPhase = .poll
  /-- the canonical loop has no short critical section -/
  delivering : s.loopState = .idle → s.ctx = .main → s.bootPhase = .run → s.ie = true
  /-- a report is under way only where the loop reports -/
  reporting : s.reportActive = true → s.loopState = .reporting ∧ s.mlPhase = .report

/-- `n` canonical turns, stopping at the first that is refused. -/
def canonicalTurns : Nat → State → Answer
  | 0, s => .next s
  | n + 1, s =>
    match canonicalTurn s with
    | .next t => canonicalTurns n t
    | .fault f => .fault f
    | .refused r => .refused r

/-- The operations of the outside world and the counter other than RESET. -/
def isInput : Instr → Bool
  | .tick | .pin _ => true
  | _ => false

/-- The operations that can fall between NOW.RDLO and NOW.CLI (R117): TICK, PIN and OVF.ISR. -/
def isWindowEvent : Instr → Bool
  | .tick | .pin _ | .ovfIsr => true
  | _ => false

/-- Two states that differ at most in the ghost counter and the observation traces (R40). -/
def SameButGhost (s t : State) : Prop :=
  { s with ticks := t.ticks, wave := t.wave, pwmLog := t.pwmLog } = t

/-- The number a string of decimal digits stands for (R89): most significant first. -/
def decimalValue (ds : List Byte) : Nat :=
  ds.foldl (fun acc d => 10 * acc + (d.toNat - 0x30)) 0

end Sys2Proof.Machine
end

