-- ==== Sys2Proof/Certificates/Slice0/Obligations.lean ====
section
/-! DEFINITION. The statements for the provers. Each docstring names the rule of spec/ it formalises. The statements about one
operation give its whole next state by an equation, so that they are its frame as well. -/

open Sys2Proof Sys2Proof.Machine

/-! ## One operation -/

/-- R250. RESET is enabled in every state and leaves every stated reset value and `pin` as it is; the fields it calls
unspecified, a draw or OPEN are free (log 6), and nothing is said of them. -/
def Obligations.ResetLeavesStatedValues : Prop :=
  decode 0x0000#16 = .ok .reset ∧
  ∀ s : State, ∃ t, exec .reset s = .next t ∧
    t.hi = 0#8 ∧ t.tStart = 0#16 ∧ t.tEnd = 0#16 ∧ t.ready = false ∧ t.ovfPending = false ∧ t.edgePending = false ∧
    t.txBusy = false ∧ t.txIdx = 0 ∧ t.ie = false ∧ t.ctx = .main ∧ t.loopState = .idle ∧ t.mlPhase = .poll ∧
    t.bootPhase = .sample ∧ t.txd = true ∧ t.wave = [] ∧ t.pwmLog = [] ∧ t.ticks = 0 ∧ t.pin = s.pin

/-- R111. TICK is enabled in every state; the counter wraps from 255 to 0 and only that wrap sets the latch. -/
def Obligations.TickCountsOnce : Prop :=
  decode 0x0100#16 = .ok .tick ∧
  ∀ s : State, exec .tick s = .next { s with
    lo := s.lo + 1#8
    ovfPending := if s.lo = 255#8 then true else s.ovfPending
    ticks := s.ticks + 1 }

/-- R112, with the priority rule R230 that it names. OVF.ISR runs in either context, changes `hi` and `ovf_pending` only,
and is refused otherwise. -/
def Obligations.OverflowHandlerIncrementsHigh : Prop :=
  decode 0x0200#16 = .ok .ovfIsr ∧
  ∀ s : State,
    (s.ie = true → s.ovfPending = true →
      ¬(s.cfg.irqPriority = .edgeFirst ∧ s.edgePending = true ∧ s.ctx = .main) →
      exec .ovfIsr s = .next { s with hi := s.hi + 1#8, ovfPending := false }) ∧
    (¬(s.ie = true ∧ s.ovfPending = true ∧
        ¬(s.cfg.irqPriority = .edgeFirst ∧ s.edgePending = true ∧ s.ctx = .main)) →
      ∃ r, exec .ovfIsr s = .refused r)

/-- R113, with R227 and R228 for every CPU step, NOW.SEI too (log 8). In the window it opens, EC.ENTER stays disabled and a pending overflow is served before any processor step. -/
def Obligations.NowSeiOpensTheWindow : Prop :=
  decode 0x0400#16 = .ok .nowSei ∧
  ∀ s : State,
    (MicroReady .sei s → exec .nowSei s = .next { s with ie := true, ecPhase := .rdlo } ∧
      (∃ r, exec .ecEnter { s with ie := true, ecPhase := .rdlo } = .refused r) ∧
      (s.ovfPending = true →
        (∃ t, exec .ovfIsr { s with ie := true, ecPhase := .rdlo } = .next t) ∧
        ∀ i : Instr, i.agent = .cpu → ∃ r, exec i { s with ie := true, ecPhase := .rdlo } = .refused r)) ∧
    (¬MicroReady .sei s → ∃ r, exec .nowSei s = .refused r)

/-- R114. -/
def Obligations.NowRdloReadsTheLowByte : Prop :=
  decode 0x0500#16 = .ok .nowRdlo ∧
  ∀ s : State,
    (MicroReady .rdlo s → exec .nowRdlo s = .next { s with loSnap := s.lo, ecPhase := .cli }) ∧
    (¬MicroReady .rdlo s → ∃ r, exec .nowRdlo s = .refused r)

/-- R115. -/
def Obligations.NowCliClosesTheWindow : Prop :=
  decode 0x0600#16 = .ok .nowCli ∧
  ∀ s : State,
    (MicroReady .cli s → exec .nowCli s = .next { s with ie := false, ecPhase := .rdhi }) ∧
    (¬MicroReady .cli s → ∃ r, exec .nowCli s = .refused r)

/-- R116, with R227 and R228 for every CPU step, NOW.RDHI too (log 8). The snapshot is `256 * hi + lo_snap` with no carry between the bytes. -/
def Obligations.NowRdhiComposesTheSnapshot : Prop :=
  decode 0x0700#16 = .ok .nowRdhi ∧
  ∀ s : State,
    (MicroReady .rdhi s → ∃ v : Tick, v.toNat = 256 * s.hi.toNat + s.loSnap.toNat ∧
      exec .nowRdhi s = .next { s with hiSnap := s.hi, snap := v, ecPhase := .rdpin }) ∧
    (¬MicroReady .rdhi s → ∃ r, exec .nowRdhi s = .refused r)

/-- R131. PIN is enabled in every state; a transition is latched in IDLE and dropped in REPORTING. -/
def Obligations.PinLatchesOrDropsTheEdge : Prop :=
  decode 0x1000#16 = .ok (.pin false) ∧ decode 0x1001#16 = .ok (.pin true) ∧
  ∀ (v : Level) (s : State),
    (v = s.pin → exec (.pin v) s = .next s) ∧
    (v ≠ s.pin → s.loopState = .idle → exec (.pin v) s = .next { s with pin := v, edgePending := true }) ∧
    (v ≠ s.pin → s.loopState = .reporting → exec (.pin v) s = .next { s with pin := v })

/-- R132 and R231, with the priority rule R230 that R132 names. Nothing of the interrupted context is touched. -/
def Obligations.EdgeHandlerEntry : Prop :=
  decode 0x1100#16 = .ok .ecEnter ∧
  ∀ s : State,
    (s.ie = true → s.edgePending = true → s.ctx = .main →
      ¬(s.cfg.irqPriority = .ovfFirst ∧ s.ovfPending = true) →
      exec .ecEnter s = .next { s with edgePending := false, ie := false, ctx := .edge, ecPhase := .sei }) ∧
    (¬(s.ie = true ∧ s.edgePending = true ∧ s.ctx = .main ∧
        ¬(s.cfg.irqPriority = .ovfFirst ∧ s.ovfPending = true)) →
      ∃ r, exec .ecEnter s = .refused r)

/-- R133, with R227 and R228 for every CPU step, EC.RDPIN too (log 8). -/
def Obligations.EcRdpinReadsTheLevel : Prop :=
  decode 0x1200#16 = .ok .ecRdpin ∧
  ∀ s : State,
    (MicroReady .rdpin s → exec .ecRdpin s = .next { s with lvl := s.pin, ecPhase := .store }) ∧
    (¬MicroReady .rdpin s → ∃ r, exec .ecRdpin s = .refused r)

/-- R134, with R227 and R228 for every CPU step, EC.STORE too (log 8). A falling edge files the start and clears the Ready Signal, a rising edge files the end and sets it; the other
timestamp stays. -/
def Obligations.EcStoreFilesTheTimestamp : Prop :=
  decode 0x1300#16 = .ok .ecStore ∧
  ∀ s : State,
    (MicroReady .store s → s.lvl = false →
      exec .ecStore s = .next { s with tStart := s.snap, ready := false, ecPhase := .ret }) ∧
    (MicroReady .store s → s.lvl = true →
      exec .ecStore s = .next { s with tEnd := s.snap, ready := true, ecPhase := .ret }) ∧
    (¬MicroReady .store s → ∃ r, exec .ecStore s = .refused r)

/-- R135 and R233, with R227 and R228 for every CPU step, EC.RET too (log 8). After it a latch that is set is dispatched before any step of the processor. -/
def Obligations.EdgeHandlerReturn : Prop :=
  decode 0x1400#16 = .ok .ecRet ∧
  ∀ s : State,
    (MicroReady .ret s → exec .ecRet s = .next { s with ctx := .main, ie := true } ∧
      (s.ovfPending = true ∨ s.edgePending = true →
        ∀ i : Instr, i.agent = .cpu → ∃ r, exec i { s with ctx := .main, ie := true } = .refused r)) ∧
    (¬MicroReady .ret s → ∃ r, exec .ecRet s = .refused r)

/-- R151, R212 (a). -/
def Obligations.MlClaimCopiesAndClears : Prop :=
  decode 0x2000#16 = .ok .mlClaim ∧
  ∀ s : State,
    (MainReady s → s.ie = false → exec .mlClaim s =
      .next { s with cs := s.tStart, ce := s.tEnd, tStart := 0#16, tEnd := 0#16, mlPhase := .width }) ∧
    (¬(MainReady s ∧ s.ie = false) → ∃ r, exec .mlClaim s = .refused r)

/-- R152. -/
def Obligations.MlWidthSubtracts : Prop :=
  decode 0x2100#16 = .ok .mlWidth ∧
  ∀ s : State,
    (MainReady s → exec .mlWidth s = .next { s with w := s.ce - s.cs, mlPhase := .classify }) ∧
    (¬MainReady s → ∃ r, exec .mlWidth s = .refused r)

/-- R167, for both policies, with a configuration within the bounds R155 (e), R161, R164 and R166 state. -/
def Obligations.MlClassifyBandAndDuty : Prop :=
  decode 0x2800#16 = .ok .mlClassify ∧
  ∀ s : State, classifierConfigured s.cfg = true →
    (MainReady s → s.cfg.mapPolicy = .continuous →
      ∃ d, remap s.cfg (signed16 s.w) = some d ∧
        exec .mlClassify s = .next { s with band := .none, dnew := d, mlPhase := .pwmwr }) ∧
    (MainReady s → s.cfg.mapPolicy = .banded →
      (∃ b d, classifyBand s.cfg.bands (signed16 s.w) = .inBand b ∧ bandDuty s.cfg b = some d ∧
        exec .mlClassify s = .next { s with band := .inBand b, dnew := d, mlPhase := .pwmwr }) ∨
      (∃ k, classifyBand s.cfg.bands (signed16 s.w) = .out k ∧
        exec .mlClassify s = .next { s with band := .out k, mlPhase := .pwmwr })) ∧
    (¬MainReady s → ∃ r, exec .mlClassify s = .refused r)

/-- R168. -/
def Obligations.MlPwmwrWritesOrHolds : Prop :=
  decode 0x2900#16 = .ok .mlPwmwr ∧
  ∀ s : State,
    (MainReady s → (s.cfg.mapPolicy = .continuous ∨ ∃ b, s.band = .inBand b) →
      exec .mlPwmwr s = .next { s with duty := s.dnew, pwmLog := s.pwmLog ++ [s.dnew], mlPhase := .report }) ∧
    (MainReady s → ¬(s.cfg.mapPolicy = .continuous ∨ ∃ b, s.band = .inBand b) → s.cfg.oorPolicy = .toDefault →
      exec .mlPwmwr s =
        .next { s with
          duty := s.cfg.defaultDuty, pwmLog := s.pwmLog ++ [s.cfg.defaultDuty], mlPhase := .report }) ∧
    (MainReady s → ¬(s.cfg.mapPolicy = .continuous ∨ ∃ b, s.band = .inBand b) → s.cfg.oorPolicy = .hold →
      exec .mlPwmwr s = .next { s with mlPhase := .report }) ∧
    (¬MainReady s → ∃ r, exec .mlPwmwr s = .refused r)

/-- R181, R212 (d), with the positive `BAUD` of R10. The interval appended to `wave` lasts `BIT_US`. -/
def Obligations.TxStartLoadsAndSendsStartBit : Prop :=
  (∀ d : Byte, decode (0x3000#16 + d.setWidth 16) = .ok (.txStart d)) ∧
  ∀ (d : Byte) (s : State), 1 ≤ s.cfg.baud →
    (MainReady s → (s.ie = true ∨ s.loopState = .reporting) →
      exec (.txStart d) s = .next { s with
        txSr := d, txIdx := 0, txBusy := true, txd := false, wave := s.wave ++ [(false, bitUs s.cfg)] }) ∧
    (¬(MainReady s ∧ (s.ie = true ∨ s.loopState = .reporting)) → ∃ r, exec (.txStart d) s = .refused r)

/-- R182, with the positive `BAUD` of R10. `tx_sr` is not shifted; `tx_idx` selects the bit. -/
def Obligations.TxDataSendsTheNextBit : Prop :=
  decode 0x3100#16 = .ok .txData ∧
  ∀ s : State, 1 ≤ s.cfg.baud →
    (TxReady s → s.txIdx.val ≤ 7 → ∃ k : Fin 9, k.val = s.txIdx.val + 1 ∧
      exec .txData s = .next { s with
        txd := s.txSr.getLsbD s.txIdx.val
        wave := s.wave ++ [(s.txSr.getLsbD s.txIdx.val, bitUs s.cfg)]
        txIdx := k }) ∧
    (¬(TxReady s ∧ s.txIdx.val ≤ 7) → ∃ r, exec .txData s = .refused r)

/-- R183, with the positive `BAUD` of R10. -/
def Obligations.TxStopReturnsToIdle : Prop :=
  decode 0x3200#16 = .ok .txStop ∧
  ∀ s : State, 1 ≤ s.cfg.baud →
    (TxReady s → s.txIdx.val = 8 → exec .txStop s = .next { s with
      txd := true, wave := s.wave ++ [(true, bitUs s.cfg)], txBusy := false, txIdx := 0 }) ∧
    (¬(TxReady s ∧ s.txIdx.val = 8) → ∃ r, exec .txStop s = .refused r)

/-- R201. -/
def Obligations.MlPollObservesReady : Prop :=
  decode 0x4000#16 = .ok .mlPoll ∧
  ∀ s : State,
    (MainReady s → s.loopState = .idle → s.ready = true →
      exec .mlPoll s = .next { s with r := true, mlPhase := .suspend }) ∧
    (MainReady s → s.loopState = .idle → s.ready = false →
      exec .mlPoll s = .next { s with r := false, mlPhase := .poll }) ∧
    (¬(MainReady s ∧ s.loopState = .idle) → ∃ r, exec .mlPoll s = .refused r)

/-- R202. `ready` is not read again. -/
def Obligations.MlSuspendHoldsDelivery : Prop :=
  decode 0x4100#16 = .ok .mlSuspend ∧
  ∀ s : State,
    (MainReady s → s.loopState = .idle → s.ie = true → s.r = true →
      exec .mlSuspend s = .next { s with ie := false, loopState := .reporting, mlPhase := .claim }) ∧
    (¬(MainReady s ∧ s.loopState = .idle ∧ s.ie = true ∧ s.r = true) → ∃ r, exec .mlSuspend s = .refused r)

/-- R204, R212 (b). -/
def Obligations.MlClrrdyClearsReady : Prop :=
  decode 0x4200#16 = .ok .mlClrrdy ∧
  ∀ s : State,
    (MainReady s → s.ie = false → exec .mlClrrdy s = .next { s with ready := false, mlPhase := .resume }) ∧
    (¬(MainReady s ∧ s.ie = false) → ∃ r, exec .mlClrrdy s = .refused r)

/-- R205, with R227 and R229 for every CPU step, ML.RESUME too (log 8). -/
def Obligations.MlResumeEnablesDelivery : Prop :=
  decode 0x4300#16 = .ok .mlResume ∧
  ∀ s : State,
    (MainReady s → s.loopState = .reporting →
      exec .mlResume s = .next { s with loopState := .idle, ie := true, mlPhase := .poll }) ∧
    (¬(MainReady s ∧ s.loopState = .reporting) → ∃ r, exec .mlResume s = .refused r)

/-- R206 and R207: the short critical section, which does not nest. -/
def Obligations.CriticalSectionAcquireRelease : Prop :=
  decode 0x4400#16 = .ok .csEnter ∧ decode 0x4500#16 = .ok .csLeave ∧
  ∀ s : State,
    (MainReady s → s.loopState = .idle → s.ie = true → exec .csEnter s = .next { s with ie := false }) ∧
    (MainReady s → s.loopState = .idle → s.ie = false → exec .csLeave s = .next { s with ie := true }) ∧
    (¬(MainReady s ∧ s.loopState = .idle ∧ s.ie = true) → ∃ r, exec .csEnter s = .refused r) ∧
    (¬(MainReady s ∧ s.loopState = .idle ∧ s.ie = false) → ∃ r, exec .csLeave s = .refused r)

/-- R251 and R252, in the states R45 describes: each boot step runs exactly at its place in the boot order. -/
def Obligations.BootStepsRunInOrder : Prop :=
  decode 0x4800#16 = .ok (.bootMode 0#2) ∧ decode 0x4801#16 = .ok (.bootMode 1#2) ∧
  decode 0x4802#16 = .ok (.bootMode 2#2) ∧ decode 0x4803#16 = .ok (.bootMode 3#2) ∧
  decode 0x4900#16 = .ok .bootStart ∧
  ∀ (m : BitVec 2) (s : State), StateInv s →
    (s.bootPhase = .sample → exec (.bootMode m) s = .next { s with mode := m, bootPhase := .start }) ∧
    (s.bootPhase ≠ .sample → ∃ r, exec (.bootMode m) s = .refused r) ∧
    (s.bootPhase = .start →
      exec .bootStart s = .next { s with ie := true, bootPhase := .run, mlPhase := .poll }) ∧
    (s.bootPhase ≠ .start → ∃ r, exec .bootStart s = .refused r)

/-! ## Words, steps and the schedule -/

/-- R92, R100, R101: words written out from the encoding table, valid and invalid. -/
def Obligations.TableWordsDecode : Prop :=
  decode 0x0100#16 = .ok .tick ∧ decode 0x1001#16 = .ok (.pin true) ∧ decode 0x30FF#16 = .ok (.txStart 0xFF#8) ∧
  decode 0x4803#16 = .ok (.bootMode 3#2) ∧ decode 0x2800#16 = .ok .mlClassify ∧
  decode 0x0300#16 = .error (.unknownOperation 0x03#8) ∧ decode 0x0101#16 = .error (.reservedBits 0x01#8 0x01#8) ∧
  decode 0x1002#16 = .error (.reservedBits 0x10#8 0x02#8) ∧ decode 0x4804#16 = .error (.reservedBits 0x48#8 0x04#8) ∧
  decode 0xFFFF#16 = .error (.unknownOperation 0xFF#8)

/-- R92, R93, R100: decoding the command word of an operation gives it back, with every operand. -/
def Obligations.DecodeAfterEncode : Prop :=
  ∀ i : Instr, i.wellFormed = true ∧ decode (encode i) = .ok i

/-- R101: a word that decodes is the command word of its operation, so every other word is invalid and no reserved bit is
ignored. -/
def Obligations.EncodeAfterDecode : Prop :=
  (∀ (w : CommandWord) (i : Instr), decode w = .ok i → encode i = w) ∧
  ∀ w : CommandWord, (∀ i, encode i ≠ w) → ∃ e, decode w = .error e

/-- A step whose next turn presents a word runs the operation the word stands for on the state without that turn, then adds
ML.REPORT's own writes to `line`, `ml_phase` and the model's own `reportActive` (R203, log 12). Outside ML.REPORT `line` and
`ml_phase` stand, and with no report under way nothing is added. An invalid word is refused (R101). With no turn placed the
step is the freely chosen turn, or a TICK where that one is not enabled (R283, log 24). The schedule is the model's (log 1). -/
def Obligations.StepRunsTheDecodedOperation : Prop :=
  (∀ (s : State) (w : CommandWord) (rest : List Turn), s.schedule = .word w :: rest →
    (∀ i, decode w = .ok i →
      (∀ t, exec i { s with schedule := rest } = .next t →
        step s = .next (reportProgress i t) ∧
        (inReport t = false → t.reportActive = false → step s = .next t) ∧
        (inReport t = false → { reportProgress i t with reportActive := t.reportActive } = t) ∧
        { reportProgress i t with line := t.line, mlPhase := t.mlPhase, reportActive := t.reportActive } = t) ∧
      (∀ r, exec i { s with schedule := rest } = .refused r → step s = .refused r)) ∧
    (∀ e, decode w = .error e → step s = .refused .invalidWord)) ∧
  (∀ (s : State) (turn : Turn) (rest : List Turn), s.schedule = turn :: rest →
    step s = takeTurn turn { s with schedule := rest }) ∧
  ∀ s : State, s.schedule = [] →
    (∃ t, takeTurn (Config.freeTurn s.draws) { s with draws := s.draws + 1 } = .next t ∧ step s = .next t) ∨
    (∃ r, takeTurn (Config.freeTurn s.draws) { s with draws := s.draws + 1 } = .refused r) ∧
      step s = exec .tick { s with draws := s.draws + 1 }

/-- R222, R226 to R229: an operation answers a next state exactly when it is enabled, and is refused otherwise. Parts of
`Enabled` are the model's choice: R227 to R229 are checked for every CPU step, also where its own rule does not repeat them
(log 8); ML.CLASSIFY checks every bound of U19 whichever policy is active (log 10); the TX steps check the positive `BAUD` of
R10 (log 11). -/
def Obligations.RunsExactlyWhenEnabled : Prop :=
  ∀ (i : Instr) (s : State),
    (Enabled s i → ∃ t, exec i s = .next t) ∧ (¬Enabled s i → ∃ r, exec i s = .refused r)

/-! ## Whole-machine rules -/

/-- The invariants of R45, and the position of the canonical loop, hold right after reset. That no report is under way there
is the reset value of the model's own field `reportActive` (log 12). -/
def Obligations.ResetStateIsGood : Prop :=
  StateInv State.reset ∧ LoopInv State.reset

/-- R45: every step, whatever its turn, keeps the invariants. -/
def Obligations.StepKeepsReachableInvariants : Prop :=
  ∀ s t : State, StateInv s → step s = .next t → StateInv t

/-- R208 with log 2: canonical turns, ML.REPORT begun at its place, and the operations of the outside world and the counter
between them, keep the position of the canonical loop. -/
def Obligations.CanonicalLoopKeepsItsPosition : Prop :=
  ∀ s t : State, StateInv s → LoopInv s →
    (canonicalTurn s = .next t → LoopInv t) ∧
    (s.mlPhase = .report → mlReport s = .next t → LoopInv t) ∧
    (∀ i, isInput i = true ∨ i = .reset → runOp i s = .next t → LoopInv t)

/-- R227 to R229, R253 with log 2: with a configuration within its bounds the dispatcher and the processor running the
canonical loop always have an enabled step; the loop is never refused. R283: with `ready = 0` it spins in ML.POLL for ever; a run has no end,
and no fairness is built in, so that from every state the outside world and the counter can go on for ever with no step of the
processor or the dispatcher (log 24). -/
def Obligations.CanonicalLoopIsNeverStuck : Prop :=
  (∀ s : State, StateInv s → LoopInv s → classifierConfigured s.cfg = true → 1 ≤ s.cfg.baud →
    ∃ t, canonicalTurn s = .next t) ∧
  (∀ (s : State) (n : Nat), MainReady s → s.loopState = .idle → s.mlPhase = .poll → s.ready = false →
    canonicalTurns (n + 1) s = .next { s with r := false, reportActive := false }) ∧
  (∀ s : State, s.schedule = [] → ∃ t, step s = .next t ∧ t.schedule = [] ∧ s.draws < t.draws) ∧
  ∀ (s : State) (inputs : Nat → Instr), (∀ n, isInput (inputs n) = true) →
    ∃ run : Nat → State, run 0 = s ∧ ∀ n, takeTurn (.word (encode (inputs n))) (run n) = .next (run (n + 1))

/-- R227: the condition under which a handler can start; under it every processor step is refused, and TICK and PIN still
run. -/
def Obligations.DispatchComesBeforeTheProcessor : Prop :=
  ∀ s : State,
    ((∃ t, exec .ovfIsr s = .next t) ∨ (∃ t, exec .ecEnter s = .next t) ↔
      s.ie = true ∧ (s.ovfPending = true ∨ s.edgePending = true ∧ s.ctx = .main)) ∧
    (s.ie = true → (s.ovfPending = true ∨ s.edgePending = true ∧ s.ctx = .main) →
      ∀ i : Instr, i.agent = .cpu → ∃ r, exec i s = .refused r) ∧
    (∃ t, exec .tick s = .next t) ∧ ∀ v, ∃ t, exec (.pin v) s = .next t

/-- R228: in the handler with no dispatch enabled exactly one processor step is enabled, the one `ec_phase` names. -/
def Obligations.HandlerHasOneNextStep : Prop :=
  ∀ s : State, s.ctx = .edge → dispatchEnabled s = false →
    ∀ i : Instr, i.agent = .cpu → ((∃ t, exec i s = .next t) ↔ i = microStep s.ecPhase)

/-- R187, R229 and R45 (c): while a byte is in flight exactly one processor step is enabled, the next TX step. -/
def Obligations.ByteInFlightBlocksTheRest : Prop :=
  ∀ s : State, TxReady s →
    ∀ i : Instr, i.agent = .cpu →
      ((∃ t, exec i s = .next t) ↔ (s.txIdx.val ≤ 7 ∧ i = .txData) ∨ (s.txIdx.val = 8 ∧ i = .txStop))

/-- R253, in the states R45 describes: before BOOT.START the only enabled processor steps are BOOT.MODE and then BOOT.START,
and neither handler is dispatched. -/
def Obligations.OnlyBootStepsBeforeStart : Prop :=
  ∀ s : State, StateInv s → s.bootPhase ≠ .run →
    (∀ i : Instr, i.agent = .cpu →
      ((∃ t, exec i s = .next t) ↔
        (s.bootPhase = .sample ∧ ∃ m, i = .bootMode m) ∨ (s.bootPhase = .start ∧ i = .bootStart))) ∧
    (∃ r, exec .ovfIsr s = .refused r) ∧ (∃ r, exec .ecEnter s = .refused r) ∧
    (∃ t, exec .tick s = .next t) ∧ ∀ v, ∃ t, exec (.pin v) s = .next t

/-- R72 (c), R202, in the states R45 describes: during suspension no overflow handler and no step of the edge handler runs,
TICK and PIN do, and no edge is latched. -/
def Obligations.SuspensionHoldsBothHandlers : Prop :=
  ∀ s : State, StateInv s → s.loopState = .reporting →
    (∀ i ∈ ([.ovfIsr, .ecEnter, .nowSei, .nowRdlo, .nowCli, .nowRdhi, .ecRdpin, .ecStore, .ecRet] : List Instr),
      ∃ r, exec i s = .refused r) ∧
    (∃ t, exec .tick s = .next t ∧ t.loopState = .reporting ∧ t.ie = false) ∧
    ∀ v, ∃ t, exec (.pin v) s = .next t ∧ t.pin = v ∧ t.edgePending = false ∧ t.loopState = .reporting

/-- R36, R46: once BOOT.MODE has run, no step writes `mode` but RESET, placed or freely chosen (log 24). -/
def Obligations.ModeIsImmutableAfterBoot : Prop :=
  ∀ s t : State, step s = .next t → s.bootPhase ≠ .sample →
    (t.mode = s.mode ∧ t.bootPhase ≠ .sample) ∨
      t.bootPhase = .sample ∧
        ((∃ rest, s.schedule = .word 0x0000#16 :: rest) ∨
          s.schedule = [] ∧ Config.freeTurn s.draws = .word 0x0000#16)

/-- R43: the table of who writes each shared cell. RESET aside, a cell that an operation changes is one that it owns, and
it is changed in the way the table says. -/
def Obligations.SharedCellsHaveOneOwner : Prop :=
  ∀ (i : Instr) (s t : State), exec i s = .next t → i ≠ .reset →
    (t.lo ≠ s.lo → i = .tick) ∧
    (t.hi ≠ s.hi → i = .ovfIsr) ∧
    (t.tStart ≠ s.tStart → i = .ecStore ∧ s.lvl = false ∨ i = .mlClaim ∧ t.tStart = 0#16) ∧
    (t.tEnd ≠ s.tEnd → i = .ecStore ∧ s.lvl = true ∨ i = .mlClaim ∧ t.tEnd = 0#16) ∧
    (t.ready ≠ s.ready → i = .ecStore ∨ i = .mlClrrdy ∧ t.ready = false) ∧
    (t.ie ≠ s.ie →
      i = .ecEnter ∨ i = .nowSei ∨ i = .nowCli ∨ i = .ecRet ∨ i = .csEnter ∨ i = .csLeave ∨ i = .mlSuspend ∨
        i = .mlResume ∨ i = .bootStart) ∧
    (t.edgePending ≠ s.edgePending → (∃ v, i = .pin v ∧ t.edgePending = true) ∨ i = .ecEnter ∧ t.edgePending = false) ∧
    (t.ovfPending ≠ s.ovfPending → i = .tick ∧ t.ovfPending = true ∨ i = .ovfIsr ∧ t.ovfPending = false)

/-- R40: the ghost counter and the observation traces are read by no operation. Two states that differ in them at most take
the same operations to states that differ in them at most. -/
def Obligations.GhostAndTracesAreNeverRead : Prop :=
  ∀ (i : Instr) (s s' : State), SameButGhost s s' →
    (∀ t, exec i s = .next t → ∃ t', exec i s' = .next t' ∧ SameButGhost t t') ∧
    (∀ r, exec i s = .refused r → exec i s' = .refused r)

/-- The configuration is an immutable parameter (R41); the model carries it in the state (log 3), with its schedule (log 1),
and no operation writes either. -/
def Obligations.ConfigurationAndScheduleAreNotWritten : Prop :=
  ∀ (i : Instr) (s t : State), exec i s = .next t → t.cfg = s.cfg ∧ t.schedule = s.schedule

/-- R61: a cell is read and written whole. A read of index 0 to 6 at the cell's own size is the named field's value; a write
of a value the cell's bits hold replaces that field and no other, and a wider value is refused (log 17). Any other index or
size is refused. After a write the cell reads as the value written and every other cell as before. -/
def Obligations.CellsAreReadAndWrittenWhole : Prop :=
  (∀ s : State,
    memRead s 0 1 = some s.lo.toNat ∧ memRead s 1 1 = some s.hi.toNat ∧ memRead s 2 2 = some s.tStart.toNat ∧
    memRead s 3 2 = some s.tEnd.toNat ∧ memRead s 4 1 = some s.ready.toNat ∧ memRead s 5 1 = some s.duty.toNat ∧
    memRead s 6 1 = some s.mode.toNat) ∧
  (∀ s : State,
    (∀ v : Byte, memWrite s 0 1 v.toNat = some { s with lo := v }) ∧
    (∀ v : Byte, memWrite s 1 1 v.toNat = some { s with hi := v }) ∧
    (∀ v : Tick, memWrite s 2 2 v.toNat = some { s with tStart := v }) ∧
    (∀ v : Tick, memWrite s 3 2 v.toNat = some { s with tEnd := v }) ∧
    (∀ v : Level, memWrite s 4 1 v.toNat = some { s with ready := v }) ∧
    (∀ v : Byte, memWrite s 5 1 v.toNat = some { s with duty := v }) ∧
    (∀ v : BitVec 2, memWrite s 6 1 v.toNat = some { s with mode := v })) ∧
  (∀ (s : State) (index n : Nat),
    ((∃ v, memRead s index n = some v) ↔
      (index, n) ∈ [(0, 1), (1, 1), (2, 2), (3, 2), (4, 1), (5, 1), (6, 1)]) ∧
    ∀ v, (∃ t, memWrite s index n v = some t) ↔
      ∃ bits, (index, n, bits) ∈ [(0, 1, 8), (1, 1, 8), (2, 2, 16), (3, 2, 16), (4, 1, 1), (5, 1, 8), (6, 1, 2)] ∧
        v < 2 ^ bits) ∧
  ∀ (s t : State) (index n v : Nat), memWrite s index n v = some t →
    memRead t index n = some v ∧ ∀ j m, j ≠ index → memRead t j m = memRead s j m

/-! ## The clock -/

/-- R117 (a): a TICK that loses no overflow adds exactly 1 to `tick_true`, one that loses an overflow leaves it 255 behind,
and OVF.ISR leaves it unchanged. -/
def Obligations.TrueTickAdvancesByOne : Prop :=
  (∀ s t : State, exec .tick s = .next t →
    (¬(s.lo = 255#8 ∧ s.ovfPending = true) → tickTrue t = tickTrue s + 1#16) ∧
    (s.lo = 255#8 ∧ s.ovfPending = true → tickTrue t = tickTrue s - 255#16)) ∧
  ∀ s t : State, exec .ovfIsr s = .next t → tickTrue t = tickTrue s

/-- R117 (b), (c), (e): in the window, the snapshot is the true tick at the low-byte read plus 256 for every overflow served
between NOW.RDLO and NOW.CLI; what falls between NOW.CLI and NOW.RDHI does not change it. -/
def Obligations.SnapshotOverCountsByServedOverflows : Prop :=
  ∀ (s t : State) (window late : List Instr), s.ie = true →
    (∀ i ∈ window, isWindowEvent i = true) → (∀ i ∈ late, isInput i = true) →
    runOps (.nowRdlo :: window ++ .nowCli :: late ++ [.nowRdhi]) s = .next t →
    composedTick s = tickTrue s ∧ t.snap = tickTrue s + BitVec.ofNat 16 (256 * window.count .ovfIsr)

/-- R111 (b), R262: `n` TICK steps with nothing between them latch one overflow at most, however often the counter wraps,
and leave `hi` behind. -/
def Obligations.WrapsWithoutServiceAreLost : Prop :=
  ∀ (n : Nat) (s : State), runOps (List.replicate n .tick) s = .next { s with
    lo := s.lo + BitVec.ofNat 8 n
    ovfPending := s.ovfPending || decide (256 ≤ s.lo.toNat + n)
    ticks := s.ticks + n }

/-- R230: with both latches set in the main context and the priority open, serving the overflow first or the edge first leads
to the same state when the snapshot has been composed. -/
def Obligations.BothDispatchOrdersAgree : Prop :=
  ∀ s : State, s.ie = true → s.ovfPending = true → s.edgePending = true → s.ctx = .main →
    s.cfg.irqPriority = .either →
    ∃ t, runOps [.ovfIsr, .ecEnter, .nowSei, .nowRdlo, .nowCli, .nowRdhi] s = .next t ∧
      runOps [.ecEnter, .nowSei, .ovfIsr, .nowRdlo, .nowCli, .nowRdhi] s = .next t ∧ t.snap = tickTrue s

/-! ## Edge capture -/

/-- R131, R139: however many PIN steps fall between two dispatches, the pin has the last level; in IDLE the latch is set as
soon as one of them differs from the level before the first, in REPORTING it is left as it was. -/
def Obligations.TransitionsAreCoalesced : Prop :=
  ∀ (vs : List Level) (s : State),
    (s.loopState = .idle → runOps (vs.map .pin) s = .next { s with
      pin := vs.getLastD s.pin, edgePending := s.edgePending || vs.any (fun v => v != s.pin) }) ∧
    (s.loopState = .reporting → runOps (vs.map .pin) s = .next { s with pin := vs.getLastD s.pin })

/-- R134, R136: a run of the edge handler that nothing interrupts, from its entry to its return, files the Tick under the
polarity of the pin's level and gives the main context back as it was. -/
def Obligations.UndisturbedHandlerRun : Prop :=
  ∀ s : State, s.ie = true → s.edgePending = true → s.ovfPending = false → s.ctx = .main →
    runOps edgeIsrOps s = .next { s with
      edgePending := false
      ecPhase := .ret
      loSnap := s.lo
      hiSnap := s.hi
      snap := composedTick s
      lvl := s.pin
      tStart := if s.pin then s.tStart else composedTick s
      tEnd := if s.pin then composedTick s else s.tEnd
      ready := s.pin }

/-! ## Width, band and duty -/

/-- R153: if the end snapshot was taken `n` ticks after the start snapshot and they over-count by `ke` and `ks` overflow
periods, the width is `n + 256 * (ke - ks)` as long as a signed 16-bit number holds it. -/
def Obligations.WidthIsTheTickDifference : Prop :=
  ∀ (s : State) (start : Tick) (n ks ke : Nat), MainReady s →
    s.cs = start + BitVec.ofNat 16 (256 * ks) → s.ce = start + BitVec.ofNat 16 n + BitVec.ofNat 16 (256 * ke) →
    -32768 ≤ (n : Int) + 256 * ((ke : Int) - ks) → (n : Int) + 256 * ((ke : Int) - ks) ≤ 32767 →
    ∃ t, exec .mlWidth s = .next t ∧ signed16 t.w = (n : Int) + 256 * ((ke : Int) - ks)

/-- R162, R163: `classify_band` answers the first band in table order whose window holds the width; with none, below, above
and between as the least lower and the greatest upper edge say. A band's center is in its window. -/
def Obligations.BandIsTheFirstWindow : Prop :=
  (∀ (before after : List Band) (b : Band) (x : Int),
    b.center - b.lowerTol < x → x < b.center + b.upperTol →
    (∀ b' ∈ before, ¬(b'.center - b'.lowerTol < x ∧ x < b'.center + b'.upperTol)) →
    classifyBand (before ++ b :: after) x = .inBand b) ∧
  (∀ (bands : List Band) (x : Int), bands ≠ [] →
    (∀ b ∈ bands, ¬(b.center - b.lowerTol < x ∧ x < b.center + b.upperTol)) →
    ((∀ b ∈ bands, x ≤ b.center - b.lowerTol) → classifyBand bands x = .out .below) ∧
    (¬(∀ b ∈ bands, x ≤ b.center - b.lowerTol) → (∀ b ∈ bands, b.center + b.upperTol ≤ x) →
      classifyBand bands x = .out .above) ∧
    (¬(∀ b ∈ bands, x ≤ b.center - b.lowerTol) → ¬(∀ b ∈ bands, b.center + b.upperTol ≤ x) →
      classifyBand bands x = .out .between)) ∧
  ∀ b : Band, 1 ≤ b.lowerTol → 1 ≤ b.upperTol → inWindow b b.center = true

/-- R164 and R165: `duty_from_mv` is `255 * t / s` rounded to the nearest integer by adding half the denominator; it fits a
byte; it is refused outside its bounds. `band_duty` scales a millivolt output by the supply voltage and takes a constant
output as it stands. -/
def Obligations.DutyIsTheRoundedRatio : Prop :=
  (∀ t s : Nat,
    (1 ≤ s → t ≤ s → ∃ d : Byte, dutyFromMv t s = some d ∧ d.toNat = (255 * t + s / 2) / s ∧
      2 * (d.toNat * s) ≤ 2 * (255 * t) + s ∧ 2 * (255 * t) < 2 * (d.toNat * s) + s + 1) ∧
    (¬(1 ≤ s ∧ t ≤ s) → dutyFromMv t s = none)) ∧
  ∀ (c : Configuration) (b : Band),
    (∀ t, b.output = .mv t → bandDuty c b = dutyFromMv t c.supplyMv) ∧
    (∀ d, b.output = .const d → bandDuty c b = some d)

/-- R166: the continuous remap clamps, is linear with the rounding of R164, covers the whole range and keeps order. -/
def Obligations.RemapCoversTheDutyRange : Prop :=
  ∀ (c : Configuration) (x y : Int), c.inMin < c.inMax →
    (x ≤ c.inMin → remap c x = some 0#8) ∧
    (c.inMax ≤ x → remap c x = some 255#8) ∧
    (c.inMin ≤ x → x ≤ c.inMax → ∃ d : Byte, remap c x = some d ∧
      (d.toNat : Int) = ((x - c.inMin) * 255 + (c.inMax - c.inMin) / 2) / (c.inMax - c.inMin)) ∧
    (x ≤ y → ∃ d e : Byte, remap c x = some d ∧ remap c y = some e ∧ d.toNat ≤ e.toNat)

/-! ## The serial line and the report -/

/-- R184: one frame sent with no other operation between its steps appends its ten intervals to `wave` and leaves the line
idle. `line` and `ml_phase` change inside ML.REPORT only (R203), and the model's own `reportActive` says whether one is
under way (log 12). -/
def Obligations.FrameOnTheWire : Prop :=
  ∀ (d : Byte) (s : State), MainReady s → (s.ie = true ∨ s.loopState = .reporting) → 1 ≤ s.cfg.baud →
    ∃ t, runOps (txbOps d) s = .next t ∧
      t = { s with
        wave := s.wave ++
          [(false, bitUs s.cfg), (d.getLsbD 0, bitUs s.cfg), (d.getLsbD 1, bitUs s.cfg), (d.getLsbD 2, bitUs s.cfg),
           (d.getLsbD 3, bitUs s.cfg), (d.getLsbD 4, bitUs s.cfg), (d.getLsbD 5, bitUs s.cfg),
           (d.getLsbD 6, bitUs s.cfg), (d.getLsbD 7, bitUs s.cfg), (true, bitUs s.cfg)]
        txd := true
        txBusy := false
        txIdx := 0
        txSr := d
        line := t.line
        mlPhase := t.mlPhase
        reportActive := t.reportActive } ∧
      (inReport s = false → t.line = s.line ∧ t.mlPhase = s.mlPhase)

/-- R184 and R185: PRINT sends its bytes in order, frame after frame, and nothing for an empty string; `tx_sr` keeps the last
byte. `line` and `ml_phase` change inside ML.REPORT only (R203), and the model's own `reportActive` says whether one is under
way (log 12). -/
def Obligations.PrintSendsFramesInOrder : Prop :=
  ∀ (ds : List Byte) (s : State), MainReady s → (s.ie = true ∨ s.loopState = .reporting) → 1 ≤ s.cfg.baud →
    ∃ t, runOps (printOps ds) s = .next t ∧ t.wave = s.wave ++ printWave s.cfg ds ∧
      (ds = [] → t = s) ∧ (ds ≠ [] → t.txd = true ∧ t.txIdx = 0) ∧
      t = { s with
        wave := t.wave, txSr := ds.getLastD s.txSr, txIdx := t.txIdx, txd := t.txd, line := t.line
        mlPhase := t.mlPhase, reportActive := t.reportActive } ∧
      (inReport s = false → t.line = s.line ∧ t.mlPhase = s.mlPhase)

/-- R186, R280, R281: a bit interval is `1000000 / BAUD`; a receiver that samples each bit interval recovers the bytes; the
waveform lasts `10 * BIT_US` for every byte of the line, and it is what merging consecutive entries of equal level and adding
their durations gives, so that neighbouring levels differ. -/
def Obligations.ReceiverRecoversTheBytes : Prop :=
  (∀ c : Configuration, 1 ≤ c.baud → bitUs c * (c.baud : Rat) = 1000000) ∧
  (∀ (c : Configuration) (ds : List Byte),
    receive ((printWave c ds).map Prod.fst) = some ds ∧
    ((waveform (printWave c ds)).map Prod.snd).sum = 10 * (ds.length : Rat) * bitUs c) ∧
  waveform [] = [] ∧
  (∀ (v : Level) (t : Rat), waveform [(v, t)] = [(v, t)]) ∧
  (∀ (v : Level) (t u : Rat) (rest : List (Level × Rat)),
    waveform ((v, t) :: (v, u) :: rest) = waveform ((v, t + u) :: rest)) ∧
  (∀ (v v' : Level) (t u : Rat) (rest : List (Level × Rat)), v ≠ v' →
    waveform ((v, t) :: (v', u) :: rest) = (v, t) :: waveform ((v', u) :: rest)) ∧
  ∀ (wave before after : List (Level × Rat)) (v v' : Level) (t u : Rat),
    waveform wave = before ++ (v, t) :: (v', u) :: after → v ≠ v'

/-- R203 and R222 with logs 2, 12 and 13. Inside the suspension the canonical loop sends the whole diagnostic line, one bit
interval a turn, then goes on to CLRRDY. For any host, whatever `ml_phase` is, ML.REPORT composes the line where a
main-context operation may run in REPORTING, and PRINT of it does the same; elsewhere it is refused, in IDLE as
`not_reporting`, and so is a canonical turn at REPORT. Nothing else of the state changes. -/
def Obligations.ReportSendsTheDiagnosticLine : Prop :=
  (∀ s : State, s.ctx = .main → s.bootPhase = .run → s.loopState = .reporting → s.ie = false → s.mlPhase = .report →
    s.txBusy = false → (s.reportActive = true → s.line = lineOf s) → 1 ≤ s.cfg.baud →
    canonicalTurns (10 * (lineOf s).length) s = .next { s with
      wave := s.wave ++ printWave s.cfg (lineOf s), line := [], mlPhase := .clrrdy, reportActive := false, txd := true
      txIdx := 0, txSr := 0x0A#8 }) ∧
  (∀ s : State,
    (MainReady s → s.loopState = .reporting →
      mlReport s = .next { s with line := lineOf s, reportActive := true } ∧
      (1 ≤ s.cfg.baud → runOps (printOps (lineOf s)) { s with line := lineOf s, reportActive := true } = .next { s with
        wave := s.wave ++ printWave s.cfg (lineOf s), line := [], mlPhase := .clrrdy, reportActive := false, txd := true
        txIdx := 0, txSr := 0x0A#8 })) ∧
    (¬(MainReady s ∧ s.loopState = .reporting) → ∃ r, mlReport s = .refused r) ∧
    (MainReady s → s.loopState = .idle →
      mlReport s = .refused .notReporting ∧ (s.mlPhase = .report → canonicalTurn s = .refused .notReporting))) ∧
  ∀ (s : State) (rest : List Turn), s.schedule = .report :: rest → step s = mlReport { s with schedule := rest }

/-- R87, R88, R90: the layout of the diagnostic line, what stands in its band field (for a Band value `none` under the banded
policy the free text of log 23), and its length: 7 to 12 bytes for a one-character text, 7 to 14 for a duty. The default
codes are those of R90's default table; that the configuration at reset holds that table is the model's choice (log 4). The
character codes are those of log 19. -/
def Obligations.DiagnosticLineLayout : Prop :=
  (∀ (c : Configuration) (mode : BitVec 2) (w : Tick) (band : BandValue) (dnew : Byte),
    diagnosticLine c mode w band dnew =
      [digitByte mode.toNat, 0x09#8] ++ signedDecimal (signed16 w) ++ [0x09#8] ++ bandOrDuty c band dnew ++
        [0x0D#8, 0x0A#8] ∧
    (digitByte mode.toNat).toNat = 0x30 + mode.toNat ∧
    (c.mapPolicy = .continuous → bandOrDuty c band dnew = decimal dnew.toNat) ∧
    (c.mapPolicy = .banded →
      (∀ b, band = .inBand b → bandOrDuty c band dnew = b.code) ∧
      (∀ k, band = .out k → bandOrDuty c band dnew = c.oorText) ∧
      (band = .none → bandOrDuty c band dnew = Config.noBandText dnew)) ∧
    ((bandOrDuty c band dnew).length = 1 →
      7 ≤ (diagnosticLine c mode w band dnew).length ∧ (diagnosticLine c mode w band dnew).length ≤ 12) ∧
    (c.mapPolicy = .continuous →
      7 ≤ (diagnosticLine c mode w band dnew).length ∧ (diagnosticLine c mode w band dnew).length ≤ 14)) ∧
  Config.atReset.bands.map (fun b => (b.name, b.code)) = [("low", [0x30#8]), ("mid", [0x31#8]), ("high", [0x32#8])]

/-- R89: the decimal of a number has only digits, no leading zero, and reads back as the number; a minus sign comes first
exactly when the number is negative. -/
def Obligations.DecimalReadsBack : Prop :=
  (∀ n : Nat, decimalValue (decimal n) = n ∧ decimal n ≠ [] ∧ (∀ d ∈ decimal n, 0x30 ≤ d.toNat ∧ d.toNat ≤ 0x39) ∧
    ((decimal n).head? = some 0x30#8 → n = 0 ∧ decimal n = [0x30#8])) ∧
  ∀ x : Int, (x < 0 → signedDecimal x = 0x2D#8 :: decimal x.natAbs) ∧ (0 ≤ x → signedDecimal x = decimal x.natAbs)
end

