-- ==== Sys2Proof/Laws/Ops.lean ====
section
/-! SUPPORT. What each shared operation can do, said once: guards, dispatch conditions, ML.REPORT's writes, cells. -/

namespace Sys2Proof.Machine

/-- No check of the list holds. -/
def Clear (cs : List Check) : Prop := ∀ c ∈ cs, c.1 = false

@[simp] theorem clear_nil : Clear [] := by simp [Clear]

@[simp] theorem clear_cons (b : Bool) (r : Refusal) (cs : List Check) :
    Clear ((b, r) :: cs) ↔ b = false ∧ Clear cs := by
  simp [Clear]

theorem clear_append (cs ds : List Check) : Clear (cs ++ ds) ↔ Clear cs ∧ Clear ds := by
  simp [Clear, or_imp, forall_and]

/-- A guarded operation answers a next state exactly when no check holds and what it guards answers that state. -/
theorem guarded_eq_next (cs : List Check) (k : Answer) (t : State) :
    guarded cs k = .next t ↔ Clear cs ∧ k = .next t := by
  induction cs with
  | nil => simp [guarded]
  | cons c cs ih =>
    obtain ⟨b, r⟩ := c
    cases b <;> simp [guarded, ih]

/-- `guarded_eq_next` for an operation that answers one state: the form most meanings have. -/
theorem guarded_next_eq (cs : List Check) (u t : State) :
    guarded cs (.next u) = .next t ↔ Clear cs ∧ t = u := by
  rw [guarded_eq_next, Host.Outcome.next.injEq, eq_comm (a := u)]

/-- A guarded next state is refused exactly when some check holds. -/
theorem guarded_refused_iff (cs : List Check) (t : State) :
    (∃ r, guarded cs (.next t) = .refused r) ↔ ∃ c ∈ cs, c.1 = true := by
  induction cs with
  | nil => simp [guarded]
  | cons c cs ih =>
    obtain ⟨b, r⟩ := c
    cases b <;> simp [guarded, ih]

/-- No step faults: the type of faults has no value (R220). -/
theorem answer_cases (a : Answer) : (∃ t, a = .next t) ∨ ∃ r, a = .refused r := by
  cases a with
  | next t => exact .inl ⟨t, rfl⟩
  | fault f => cases f
  | refused r => exact .inr ⟨r, rfl⟩

/-- The condition of R227, spelled out. -/
theorem dispatchEnabled_iff (s : State) :
    dispatchEnabled s = true ↔
      s.ie = true ∧ (s.ovfPending = true ∨ s.edgePending = true ∧ s.ctx = .main) := by
  simp only [dispatchEnabled, overflowDispatchable, edgeDispatchable, Bool.or_eq_true, Bool.and_eq_true,
    decide_eq_true_eq]
  tauto

/-- No dispatch is enabled while delivery is off (R227). -/
theorem dispatchEnabled_of_ie_false {s : State} (h : s.ie = false) : dispatchEnabled s = false := by
  simp [dispatchEnabled, overflowDispatchable, edgeDispatchable, h]

/-- In the handler only the overflow latch can be dispatched (R227, R230). -/
theorem dispatchEnabled_edge {s : State} (h : s.ctx = .edge) :
    dispatchEnabled s = (s.ie && s.ovfPending) := by
  simp [dispatchEnabled, overflowDispatchable, edgeDispatchable, h]

/-- A presented operation answers `t` exactly when its meaning answers a state that ML.REPORT turns into `t`. -/
theorem runOp_eq_next (i : Instr) (s t : State) :
    runOp i s = .next t ↔ ∃ u, exec i s = .next u ∧ t = reportProgress i u := by
  unfold runOp
  cases exec i s with
  | next u => simp [eq_comm]
  | fault f => cases f
  | refused r => simp

/-- A sequence runs when its first operation and then the rest run. -/
theorem runOps_cons (i : Instr) (is : List Instr) (s t : State) :
    runOps (i :: is) s = .next t ↔ ∃ u, runOp i s = .next u ∧ runOps is u = .next t := by
  simp only [runOps]
  cases runOp i s with
  | next u => simp
  | fault f => cases f
  | refused r => simp

/-- A sequence in two parts runs when the first part and then the second run. -/
theorem runOps_append (is js : List Instr) (s t : State) :
    runOps (is ++ js) s = .next t ↔ ∃ u, runOps is s = .next u ∧ runOps js u = .next t := by
  induction is generalizing s with
  | nil => simp [runOps]
  | cons i is ih =>
    simp only [List.cons_append, runOps_cons, ih]
    constructor
    · rintro ⟨a, ha, b, hb, hc⟩
      exact ⟨b, ⟨a, ha, hb⟩, hc⟩
    · rintro ⟨b, ⟨a, ha, hb⟩, hc⟩
      exact ⟨a, ha, b, hb, hc⟩

/-- Outside ML.REPORT an operation's `line` and `ml_phase` stand; at most a report is no longer under way (R203). -/
theorem reportProgress_of_not_inReport {i : Instr} {t : State} (h : inReport t = false) :
    reportProgress i t = { t with reportActive := (reportProgress i t).reportActive } := by
  have hs : ∀ d, reportByteStarted d t = { t with reportActive := false } := by
    intro d
    unfold reportByteStarted
    rw [if_neg]
    rintro ⟨hl, hd⟩
    simp [inReport, hl] at h
    simp [reportBytes, h.1, h.2] at hd
  have hf : reportByteSent t = t := by
    unfold reportByteSent
    rw [if_neg]
    rintro ⟨hl, ha, -⟩
    simp [inReport, hl, ha] at h
  cases i <;> simp only [reportProgress, hs, hf]

/-- With no report under way and none to begin, nothing is added to an operation (R203). -/
theorem reportProgress_of_idle {i : Instr} {t : State} (h : inReport t = false) (ha : t.reportActive = false) :
    reportProgress i t = t := by
  rw [reportProgress_of_not_inReport h]
  suffices hr : (reportProgress i t).reportActive = t.reportActive by rw [hr]
  cases i <;> simp only [reportProgress, reportByteStarted, reportByteSent, ha] <;> try rfl
  · split
    · rename_i d hc
      simp [inReport, hc.1, ha] at h
      simp [reportBytes, ha, h] at hc
    · rfl
  · simp [ha]

/-- The start of a frame writes `line` and what says whether a report is under way (R203). -/
theorem reportByteStarted_writes (d : Byte) (t : State) :
    reportByteStarted d t = { t with
      line := (reportByteStarted d t).line, reportActive := (reportByteStarted d t).reportActive } := by
  unfold reportByteStarted
  split <;> rfl

/-- The end of a frame writes `ml_phase` and what says whether a report is under way (R203). -/
theorem reportByteSent_writes (t : State) :
    reportByteSent t = { t with
      mlPhase := (reportByteSent t).mlPhase, reportActive := (reportByteSent t).reportActive } := by
  unfold reportByteSent
  split <;> rfl

/-- ML.REPORT writes `line`, `ml_phase` and what says whether a report is under way, and nothing else (R203). -/
theorem reportProgress_writes (i : Instr) (t : State) :
    reportProgress i t = { t with
      line := (reportProgress i t).line
      mlPhase := (reportProgress i t).mlPhase
      reportActive := (reportProgress i t).reportActive } := by
  cases i <;> simp only [reportProgress]
  · rw [reportByteStarted_writes]
  · rw [reportByteSent_writes]

/-- What a free turn can do: the chosen turn where that answers, a TICK where it is refused (R283). -/
theorem freeStep_cases (s : State) :
    (∃ t, takeTurn (Config.freeTurn s.draws) { s with draws := s.draws + 1 } = .next t ∧ freeStep s = .next t) ∨
    (∃ r, takeTurn (Config.freeTurn s.draws) { s with draws := s.draws + 1 } = .refused r) ∧
      freeStep s = runOp .tick { s with draws := s.draws + 1 } := by
  unfold freeStep
  cases takeTurn (Config.freeTurn s.draws) { s with draws := s.draws + 1 } with
  | next t => simp
  | fault f => cases f
  | refused r => simp

/-- Reading a cell after writing it a value its bits hold gives that value (R61). -/
theorem readCell_writeCell_same (s : State) (c : Cell) (v : Nat) (h : v < 2 ^ cellBits c) :
    readCell (writeCell s c v) c = v := by
  cases c
  case ready =>
    have h' : v < 2 := h
    interval_cases v <;> rfl
  all_goals
    simp only [cellBits] at h
    simp only [readCell, writeCell, BitVec.toNat_ofNat]
    exact Nat.mod_eq_of_lt h

/-- Writing a cell leaves every other cell as it was (R61). -/
theorem readCell_writeCell_other (s : State) {c d : Cell} (v : Nat) (h : d ≠ c) :
    readCell (writeCell s c v) d = readCell s d := by
  cases c <;> cases d <;> first | rfl | exact absurd rfl h

/-- A cell holds a value of its own bits (R61). -/
theorem readCell_lt (s : State) (c : Cell) : readCell s c < 2 ^ cellBits c := by
  cases c
  case ready => cases h : s.ready <;> simp [readCell, cellBits, h]
  all_goals exact BitVec.isLt _

end Sys2Proof.Machine
end

