-- ==== Sys2Proof/Laws/Classifier.lean ====
section
/-! SUPPORT. The classifier's functions, each said once (spec/43_classifier.md R162 to R167). -/

namespace Sys2Proof.Machine

/-- The five bounds, one by one (R161, R164, R166, U19). -/
theorem classifierConfigured_iff (c : Configuration) :
    classifierConfigured c = true ↔
      c.bands ≠ [] ∧ (∀ b ∈ c.bands, 1 ≤ b.lowerTol ∧ 1 ≤ b.upperTol) ∧ 1 ≤ c.supplyMv ∧
        (∀ b ∈ c.bands, b.targetWithin c.supplyMv = true) ∧ c.inMin < c.inMax := by
  simp [classifierConfigured, Configuration.bandsNonEmpty, Configuration.tolerancesPositive,
    Configuration.supplyPositive, Configuration.targetsWithinSupply, Configuration.spanPositive,
    Band.tolerancesPositive, and_assoc]

theorem inWindow_iff (b : Band) (x : Int) :
    inWindow b x = true ↔ b.center - b.lowerTol < x ∧ x < b.center + b.upperTol := by
  rw [inWindow, Bool.and_eq_true, decide_eq_true_eq, decide_eq_true_eq]
  rfl

/-- A band that `classify_band` answers is in the table and its window holds the width. -/
theorem classifyBand_inBand {bands : List Band} {x : Int} {b : Band} (h : classifyBand bands x = .inBand b) :
    b ∈ bands ∧ inWindow b x = true := by
  unfold classifyBand at h
  split at h
  · rename_i b' hb
    cases h
    exact ⟨List.mem_of_find?_eq_some hb, List.find?_some (p := fun b => inWindow b x) hb⟩
  · split at h <;> (try split at h) <;> cases h

theorem dutyFromMv_isSome (t s : Nat) : (dutyFromMv t s).isSome = true ↔ 1 ≤ s ∧ t ≤ s := by
  unfold dutyFromMv
  split <;> simp_all

theorem remap_isSome (c : Configuration) (x : Int) : (remap c x).isSome = true ↔ c.inMin < c.inMax := by
  unfold remap
  split <;> simp_all

/-- A configuration within its bounds gives every band of its table a duty (R164, R165). -/
theorem bandDuty_isSome {c : Configuration} (h : classifierConfigured c = true) {b : Band} (hb : b ∈ c.bands) :
    (bandDuty c b).isSome = true := by
  obtain ⟨-, -, hs, ht, -⟩ := (classifierConfigured_iff c).1 h
  have := ht b hb
  unfold bandDuty
  unfold Band.targetWithin at this
  split
  · rename_i t hout
    rw [hout] at this
    exact (dutyFromMv_isSome t c.supplyMv).2 ⟨hs, of_decide_eq_true this⟩
  · rfl

/-- The classifier answers exactly when the configuration is within its bounds (R155 (e), R163: it is total). -/
theorem classify_isSome (c : Configuration) (x : Int) (old : Byte) :
    (classify c x old).isSome = true ↔ classifierConfigured c = true := by
  unfold classify
  split
  · rename_i h
    simp only [h, iff_true]
    split
    · obtain ⟨-, -, -, -, hr⟩ := (classifierConfigured_iff c).1 h
      simpa using (remap_isSome c x).2 hr
    · split
      · rename_i b hb
        simpa using bandDuty_isSome h (classifyBand_inBand hb).1
      · rfl
  · rename_i h
    simp [h]

end Sys2Proof.Machine
end

