-- ==== Sys2Proof/Laws/State.lean ====
section
/-! SUPPORT. What every named update of the state leaves in every field, one lemma per field per update. -/

namespace Sys2Proof.Machine

/-! `enterEdgeHandler` -/

@[simp] theorem enterEdgeHandler_lo (s : State) : (enterEdgeHandler s).lo = s.lo := rfl
@[simp] theorem enterEdgeHandler_hi (s : State) : (enterEdgeHandler s).hi = s.hi := rfl
@[simp] theorem enterEdgeHandler_tStart (s : State) : (enterEdgeHandler s).tStart = s.tStart := rfl
@[simp] theorem enterEdgeHandler_tEnd (s : State) : (enterEdgeHandler s).tEnd = s.tEnd := rfl
@[simp] theorem enterEdgeHandler_loSnap (s : State) : (enterEdgeHandler s).loSnap = s.loSnap := rfl
@[simp] theorem enterEdgeHandler_hiSnap (s : State) : (enterEdgeHandler s).hiSnap = s.hiSnap := rfl
@[simp] theorem enterEdgeHandler_snap (s : State) : (enterEdgeHandler s).snap = s.snap := rfl
@[simp] theorem enterEdgeHandler_lvl (s : State) : (enterEdgeHandler s).lvl = s.lvl := rfl
@[simp] theorem enterEdgeHandler_r (s : State) : (enterEdgeHandler s).r = s.r := rfl
@[simp] theorem enterEdgeHandler_cs (s : State) : (enterEdgeHandler s).cs = s.cs := rfl
@[simp] theorem enterEdgeHandler_ce (s : State) : (enterEdgeHandler s).ce = s.ce := rfl
@[simp] theorem enterEdgeHandler_w (s : State) : (enterEdgeHandler s).w = s.w := rfl
@[simp] theorem enterEdgeHandler_band (s : State) : (enterEdgeHandler s).band = s.band := rfl
@[simp] theorem enterEdgeHandler_dnew (s : State) : (enterEdgeHandler s).dnew = s.dnew := rfl
@[simp] theorem enterEdgeHandler_line (s : State) : (enterEdgeHandler s).line = s.line := rfl
@[simp] theorem enterEdgeHandler_txSr (s : State) : (enterEdgeHandler s).txSr = s.txSr := rfl
@[simp] theorem enterEdgeHandler_txIdx (s : State) : (enterEdgeHandler s).txIdx = s.txIdx := rfl
@[simp] theorem enterEdgeHandler_ready (s : State) : (enterEdgeHandler s).ready = s.ready := rfl
@[simp] theorem enterEdgeHandler_ovfPending (s : State) : (enterEdgeHandler s).ovfPending = s.ovfPending := rfl
@[simp] theorem enterEdgeHandler_edgePending (s : State) : (enterEdgeHandler s).edgePending = false := rfl
@[simp] theorem enterEdgeHandler_txBusy (s : State) : (enterEdgeHandler s).txBusy = s.txBusy := rfl
@[simp] theorem enterEdgeHandler_ie (s : State) : (enterEdgeHandler s).ie = false := rfl
@[simp] theorem enterEdgeHandler_ctx (s : State) : (enterEdgeHandler s).ctx = .edge := rfl
@[simp] theorem enterEdgeHandler_loopState (s : State) : (enterEdgeHandler s).loopState = s.loopState := rfl
@[simp] theorem enterEdgeHandler_mode (s : State) : (enterEdgeHandler s).mode = s.mode := rfl
@[simp] theorem enterEdgeHandler_duty (s : State) : (enterEdgeHandler s).duty = s.duty := rfl
@[simp] theorem enterEdgeHandler_ecPhase (s : State) : (enterEdgeHandler s).ecPhase = .sei := rfl
@[simp] theorem enterEdgeHandler_mlPhase (s : State) : (enterEdgeHandler s).mlPhase = s.mlPhase := rfl
@[simp] theorem enterEdgeHandler_bootPhase (s : State) : (enterEdgeHandler s).bootPhase = s.bootPhase := rfl
@[simp] theorem enterEdgeHandler_pin (s : State) : (enterEdgeHandler s).pin = s.pin := rfl
@[simp] theorem enterEdgeHandler_txd (s : State) : (enterEdgeHandler s).txd = s.txd := rfl
@[simp] theorem enterEdgeHandler_wave (s : State) : (enterEdgeHandler s).wave = s.wave := rfl
@[simp] theorem enterEdgeHandler_pwmLog (s : State) : (enterEdgeHandler s).pwmLog = s.pwmLog := rfl
@[simp] theorem enterEdgeHandler_ticks (s : State) : (enterEdgeHandler s).ticks = s.ticks := rfl
@[simp] theorem enterEdgeHandler_reportActive (s : State) : (enterEdgeHandler s).reportActive = s.reportActive := rfl
@[simp] theorem enterEdgeHandler_cfg (s : State) : (enterEdgeHandler s).cfg = s.cfg := rfl
@[simp] theorem enterEdgeHandler_schedule (s : State) : (enterEdgeHandler s).schedule = s.schedule := rfl
@[simp] theorem enterEdgeHandler_draws (s : State) : (enterEdgeHandler s).draws = s.draws := rfl

/-! `returnFromEdgeHandler` -/

@[simp] theorem returnFromEdgeHandler_lo (s : State) : (returnFromEdgeHandler s).lo = s.lo := rfl
@[simp] theorem returnFromEdgeHandler_hi (s : State) : (returnFromEdgeHandler s).hi = s.hi := rfl
@[simp] theorem returnFromEdgeHandler_tStart (s : State) : (returnFromEdgeHandler s).tStart = s.tStart := rfl
@[simp] theorem returnFromEdgeHandler_tEnd (s : State) : (returnFromEdgeHandler s).tEnd = s.tEnd := rfl
@[simp] theorem returnFromEdgeHandler_loSnap (s : State) : (returnFromEdgeHandler s).loSnap = s.loSnap := rfl
@[simp] theorem returnFromEdgeHandler_hiSnap (s : State) : (returnFromEdgeHandler s).hiSnap = s.hiSnap := rfl
@[simp] theorem returnFromEdgeHandler_snap (s : State) : (returnFromEdgeHandler s).snap = s.snap := rfl
@[simp] theorem returnFromEdgeHandler_lvl (s : State) : (returnFromEdgeHandler s).lvl = s.lvl := rfl
@[simp] theorem returnFromEdgeHandler_r (s : State) : (returnFromEdgeHandler s).r = s.r := rfl
@[simp] theorem returnFromEdgeHandler_cs (s : State) : (returnFromEdgeHandler s).cs = s.cs := rfl
@[simp] theorem returnFromEdgeHandler_ce (s : State) : (returnFromEdgeHandler s).ce = s.ce := rfl
@[simp] theorem returnFromEdgeHandler_w (s : State) : (returnFromEdgeHandler s).w = s.w := rfl
@[simp] theorem returnFromEdgeHandler_band (s : State) : (returnFromEdgeHandler s).band = s.band := rfl
@[simp] theorem returnFromEdgeHandler_dnew (s : State) : (returnFromEdgeHandler s).dnew = s.dnew := rfl
@[simp] theorem returnFromEdgeHandler_line (s : State) : (returnFromEdgeHandler s).line = s.line := rfl
@[simp] theorem returnFromEdgeHandler_txSr (s : State) : (returnFromEdgeHandler s).txSr = s.txSr := rfl
@[simp] theorem returnFromEdgeHandler_txIdx (s : State) : (returnFromEdgeHandler s).txIdx = s.txIdx := rfl
@[simp] theorem returnFromEdgeHandler_ready (s : State) : (returnFromEdgeHandler s).ready = s.ready := rfl
@[simp] theorem returnFromEdgeHandler_ovfPending (s : State) : (returnFromEdgeHandler s).ovfPending = s.ovfPending := rfl
@[simp] theorem returnFromEdgeHandler_edgePending (s : State) : (returnFromEdgeHandler s).edgePending = s.edgePending := rfl
@[simp] theorem returnFromEdgeHandler_txBusy (s : State) : (returnFromEdgeHandler s).txBusy = s.txBusy := rfl
@[simp] theorem returnFromEdgeHandler_ie (s : State) : (returnFromEdgeHandler s).ie = true := rfl
@[simp] theorem returnFromEdgeHandler_ctx (s : State) : (returnFromEdgeHandler s).ctx = .main := rfl
@[simp] theorem returnFromEdgeHandler_loopState (s : State) : (returnFromEdgeHandler s).loopState = s.loopState := rfl
@[simp] theorem returnFromEdgeHandler_mode (s : State) : (returnFromEdgeHandler s).mode = s.mode := rfl
@[simp] theorem returnFromEdgeHandler_duty (s : State) : (returnFromEdgeHandler s).duty = s.duty := rfl
@[simp] theorem returnFromEdgeHandler_ecPhase (s : State) : (returnFromEdgeHandler s).ecPhase = s.ecPhase := rfl
@[simp] theorem returnFromEdgeHandler_mlPhase (s : State) : (returnFromEdgeHandler s).mlPhase = s.mlPhase := rfl
@[simp] theorem returnFromEdgeHandler_bootPhase (s : State) : (returnFromEdgeHandler s).bootPhase = s.bootPhase := rfl
@[simp] theorem returnFromEdgeHandler_pin (s : State) : (returnFromEdgeHandler s).pin = s.pin := rfl
@[simp] theorem returnFromEdgeHandler_txd (s : State) : (returnFromEdgeHandler s).txd = s.txd := rfl
@[simp] theorem returnFromEdgeHandler_wave (s : State) : (returnFromEdgeHandler s).wave = s.wave := rfl
@[simp] theorem returnFromEdgeHandler_pwmLog (s : State) : (returnFromEdgeHandler s).pwmLog = s.pwmLog := rfl
@[simp] theorem returnFromEdgeHandler_ticks (s : State) : (returnFromEdgeHandler s).ticks = s.ticks := rfl
@[simp] theorem returnFromEdgeHandler_reportActive (s : State) : (returnFromEdgeHandler s).reportActive = s.reportActive := rfl
@[simp] theorem returnFromEdgeHandler_cfg (s : State) : (returnFromEdgeHandler s).cfg = s.cfg := rfl
@[simp] theorem returnFromEdgeHandler_schedule (s : State) : (returnFromEdgeHandler s).schedule = s.schedule := rfl
@[simp] theorem returnFromEdgeHandler_draws (s : State) : (returnFromEdgeHandler s).draws = s.draws := rfl

/-! `overflowHandler` -/

@[simp] theorem overflowHandler_lo (s : State) : (overflowHandler s).lo = s.lo := rfl
@[simp] theorem overflowHandler_hi (s : State) : (overflowHandler s).hi = s.hi + 1#8 := rfl
@[simp] theorem overflowHandler_tStart (s : State) : (overflowHandler s).tStart = s.tStart := rfl
@[simp] theorem overflowHandler_tEnd (s : State) : (overflowHandler s).tEnd = s.tEnd := rfl
@[simp] theorem overflowHandler_loSnap (s : State) : (overflowHandler s).loSnap = s.loSnap := rfl
@[simp] theorem overflowHandler_hiSnap (s : State) : (overflowHandler s).hiSnap = s.hiSnap := rfl
@[simp] theorem overflowHandler_snap (s : State) : (overflowHandler s).snap = s.snap := rfl
@[simp] theorem overflowHandler_lvl (s : State) : (overflowHandler s).lvl = s.lvl := rfl
@[simp] theorem overflowHandler_r (s : State) : (overflowHandler s).r = s.r := rfl
@[simp] theorem overflowHandler_cs (s : State) : (overflowHandler s).cs = s.cs := rfl
@[simp] theorem overflowHandler_ce (s : State) : (overflowHandler s).ce = s.ce := rfl
@[simp] theorem overflowHandler_w (s : State) : (overflowHandler s).w = s.w := rfl
@[simp] theorem overflowHandler_band (s : State) : (overflowHandler s).band = s.band := rfl
@[simp] theorem overflowHandler_dnew (s : State) : (overflowHandler s).dnew = s.dnew := rfl
@[simp] theorem overflowHandler_line (s : State) : (overflowHandler s).line = s.line := rfl
@[simp] theorem overflowHandler_txSr (s : State) : (overflowHandler s).txSr = s.txSr := rfl
@[simp] theorem overflowHandler_txIdx (s : State) : (overflowHandler s).txIdx = s.txIdx := rfl
@[simp] theorem overflowHandler_ready (s : State) : (overflowHandler s).ready = s.ready := rfl
@[simp] theorem overflowHandler_ovfPending (s : State) : (overflowHandler s).ovfPending = false := rfl
@[simp] theorem overflowHandler_edgePending (s : State) : (overflowHandler s).edgePending = s.edgePending := rfl
@[simp] theorem overflowHandler_txBusy (s : State) : (overflowHandler s).txBusy = s.txBusy := rfl
@[simp] theorem overflowHandler_ie (s : State) : (overflowHandler s).ie = s.ie := rfl
@[simp] theorem overflowHandler_ctx (s : State) : (overflowHandler s).ctx = s.ctx := rfl
@[simp] theorem overflowHandler_loopState (s : State) : (overflowHandler s).loopState = s.loopState := rfl
@[simp] theorem overflowHandler_mode (s : State) : (overflowHandler s).mode = s.mode := rfl
@[simp] theorem overflowHandler_duty (s : State) : (overflowHandler s).duty = s.duty := rfl
@[simp] theorem overflowHandler_ecPhase (s : State) : (overflowHandler s).ecPhase = s.ecPhase := rfl
@[simp] theorem overflowHandler_mlPhase (s : State) : (overflowHandler s).mlPhase = s.mlPhase := rfl
@[simp] theorem overflowHandler_bootPhase (s : State) : (overflowHandler s).bootPhase = s.bootPhase := rfl
@[simp] theorem overflowHandler_pin (s : State) : (overflowHandler s).pin = s.pin := rfl
@[simp] theorem overflowHandler_txd (s : State) : (overflowHandler s).txd = s.txd := rfl
@[simp] theorem overflowHandler_wave (s : State) : (overflowHandler s).wave = s.wave := rfl
@[simp] theorem overflowHandler_pwmLog (s : State) : (overflowHandler s).pwmLog = s.pwmLog := rfl
@[simp] theorem overflowHandler_ticks (s : State) : (overflowHandler s).ticks = s.ticks := rfl
@[simp] theorem overflowHandler_reportActive (s : State) : (overflowHandler s).reportActive = s.reportActive := rfl
@[simp] theorem overflowHandler_cfg (s : State) : (overflowHandler s).cfg = s.cfg := rfl
@[simp] theorem overflowHandler_schedule (s : State) : (overflowHandler s).schedule = s.schedule := rfl
@[simp] theorem overflowHandler_draws (s : State) : (overflowHandler s).draws = s.draws := rfl

/-! `sendLevel` -/

@[simp] theorem sendLevel_lo (v : Level) (s : State) : (sendLevel v s).lo = s.lo := rfl
@[simp] theorem sendLevel_hi (v : Level) (s : State) : (sendLevel v s).hi = s.hi := rfl
@[simp] theorem sendLevel_tStart (v : Level) (s : State) : (sendLevel v s).tStart = s.tStart := rfl
@[simp] theorem sendLevel_tEnd (v : Level) (s : State) : (sendLevel v s).tEnd = s.tEnd := rfl
@[simp] theorem sendLevel_loSnap (v : Level) (s : State) : (sendLevel v s).loSnap = s.loSnap := rfl
@[simp] theorem sendLevel_hiSnap (v : Level) (s : State) : (sendLevel v s).hiSnap = s.hiSnap := rfl
@[simp] theorem sendLevel_snap (v : Level) (s : State) : (sendLevel v s).snap = s.snap := rfl
@[simp] theorem sendLevel_lvl (v : Level) (s : State) : (sendLevel v s).lvl = s.lvl := rfl
@[simp] theorem sendLevel_r (v : Level) (s : State) : (sendLevel v s).r = s.r := rfl
@[simp] theorem sendLevel_cs (v : Level) (s : State) : (sendLevel v s).cs = s.cs := rfl
@[simp] theorem sendLevel_ce (v : Level) (s : State) : (sendLevel v s).ce = s.ce := rfl
@[simp] theorem sendLevel_w (v : Level) (s : State) : (sendLevel v s).w = s.w := rfl
@[simp] theorem sendLevel_band (v : Level) (s : State) : (sendLevel v s).band = s.band := rfl
@[simp] theorem sendLevel_dnew (v : Level) (s : State) : (sendLevel v s).dnew = s.dnew := rfl
@[simp] theorem sendLevel_line (v : Level) (s : State) : (sendLevel v s).line = s.line := rfl
@[simp] theorem sendLevel_txSr (v : Level) (s : State) : (sendLevel v s).txSr = s.txSr := rfl
@[simp] theorem sendLevel_txIdx (v : Level) (s : State) : (sendLevel v s).txIdx = s.txIdx := rfl
@[simp] theorem sendLevel_ready (v : Level) (s : State) : (sendLevel v s).ready = s.ready := rfl
@[simp] theorem sendLevel_ovfPending (v : Level) (s : State) : (sendLevel v s).ovfPending = s.ovfPending := rfl
@[simp] theorem sendLevel_edgePending (v : Level) (s : State) : (sendLevel v s).edgePending = s.edgePending := rfl
@[simp] theorem sendLevel_txBusy (v : Level) (s : State) : (sendLevel v s).txBusy = s.txBusy := rfl
@[simp] theorem sendLevel_ie (v : Level) (s : State) : (sendLevel v s).ie = s.ie := rfl
@[simp] theorem sendLevel_ctx (v : Level) (s : State) : (sendLevel v s).ctx = s.ctx := rfl
@[simp] theorem sendLevel_loopState (v : Level) (s : State) : (sendLevel v s).loopState = s.loopState := rfl
@[simp] theorem sendLevel_mode (v : Level) (s : State) : (sendLevel v s).mode = s.mode := rfl
@[simp] theorem sendLevel_duty (v : Level) (s : State) : (sendLevel v s).duty = s.duty := rfl
@[simp] theorem sendLevel_ecPhase (v : Level) (s : State) : (sendLevel v s).ecPhase = s.ecPhase := rfl
@[simp] theorem sendLevel_mlPhase (v : Level) (s : State) : (sendLevel v s).mlPhase = s.mlPhase := rfl
@[simp] theorem sendLevel_bootPhase (v : Level) (s : State) : (sendLevel v s).bootPhase = s.bootPhase := rfl
@[simp] theorem sendLevel_pin (v : Level) (s : State) : (sendLevel v s).pin = s.pin := rfl
@[simp] theorem sendLevel_txd (v : Level) (s : State) : (sendLevel v s).txd = v := rfl
@[simp] theorem sendLevel_wave (v : Level) (s : State) : (sendLevel v s).wave = s.wave ++ [(v, bitUs s.cfg)] := rfl
@[simp] theorem sendLevel_pwmLog (v : Level) (s : State) : (sendLevel v s).pwmLog = s.pwmLog := rfl
@[simp] theorem sendLevel_ticks (v : Level) (s : State) : (sendLevel v s).ticks = s.ticks := rfl
@[simp] theorem sendLevel_reportActive (v : Level) (s : State) : (sendLevel v s).reportActive = s.reportActive := rfl
@[simp] theorem sendLevel_cfg (v : Level) (s : State) : (sendLevel v s).cfg = s.cfg := rfl
@[simp] theorem sendLevel_schedule (v : Level) (s : State) : (sendLevel v s).schedule = s.schedule := rfl
@[simp] theorem sendLevel_draws (v : Level) (s : State) : (sendLevel v s).draws = s.draws := rfl

/-! `powerOn`: the fields that RESET gives a value (R250) -/

@[simp] theorem powerOn_hi (s : State) : (powerOn s).hi = 0 := rfl
@[simp] theorem powerOn_tStart (s : State) : (powerOn s).tStart = 0 := rfl
@[simp] theorem powerOn_tEnd (s : State) : (powerOn s).tEnd = 0 := rfl
@[simp] theorem powerOn_txIdx (s : State) : (powerOn s).txIdx = 0 := rfl
@[simp] theorem powerOn_ready (s : State) : (powerOn s).ready = false := rfl
@[simp] theorem powerOn_ovfPending (s : State) : (powerOn s).ovfPending = false := rfl
@[simp] theorem powerOn_edgePending (s : State) : (powerOn s).edgePending = false := rfl
@[simp] theorem powerOn_txBusy (s : State) : (powerOn s).txBusy = false := rfl
@[simp] theorem powerOn_ie (s : State) : (powerOn s).ie = false := rfl
@[simp] theorem powerOn_ctx (s : State) : (powerOn s).ctx = .main := rfl
@[simp] theorem powerOn_loopState (s : State) : (powerOn s).loopState = .idle := rfl
@[simp] theorem powerOn_mlPhase (s : State) : (powerOn s).mlPhase = .poll := rfl
@[simp] theorem powerOn_bootPhase (s : State) : (powerOn s).bootPhase = .sample := rfl
@[simp] theorem powerOn_pin (s : State) : (powerOn s).pin = s.pin := rfl
@[simp] theorem powerOn_txd (s : State) : (powerOn s).txd = true := rfl
@[simp] theorem powerOn_wave (s : State) : (powerOn s).wave = [] := rfl
@[simp] theorem powerOn_pwmLog (s : State) : (powerOn s).pwmLog = [] := rfl
@[simp] theorem powerOn_ticks (s : State) : (powerOn s).ticks = 0 := rfl
@[simp] theorem powerOn_reportActive (s : State) : (powerOn s).reportActive = false := rfl
@[simp] theorem powerOn_cfg (s : State) : (powerOn s).cfg = s.cfg := rfl
@[simp] theorem powerOn_schedule (s : State) : (powerOn s).schedule = s.schedule := rfl
@[simp] theorem powerOn_draws (s : State) : (powerOn s).draws = s.draws + 1 := rfl

/-! `State.withFetchWord` -/

@[simp] theorem withFetchWord_lo (s : State) (n w : Nat) : (s.withFetchWord n w).lo = s.lo := rfl
@[simp] theorem withFetchWord_hi (s : State) (n w : Nat) : (s.withFetchWord n w).hi = s.hi := rfl
@[simp] theorem withFetchWord_tStart (s : State) (n w : Nat) : (s.withFetchWord n w).tStart = s.tStart := rfl
@[simp] theorem withFetchWord_tEnd (s : State) (n w : Nat) : (s.withFetchWord n w).tEnd = s.tEnd := rfl
@[simp] theorem withFetchWord_loSnap (s : State) (n w : Nat) : (s.withFetchWord n w).loSnap = s.loSnap := rfl
@[simp] theorem withFetchWord_hiSnap (s : State) (n w : Nat) : (s.withFetchWord n w).hiSnap = s.hiSnap := rfl
@[simp] theorem withFetchWord_snap (s : State) (n w : Nat) : (s.withFetchWord n w).snap = s.snap := rfl
@[simp] theorem withFetchWord_lvl (s : State) (n w : Nat) : (s.withFetchWord n w).lvl = s.lvl := rfl
@[simp] theorem withFetchWord_r (s : State) (n w : Nat) : (s.withFetchWord n w).r = s.r := rfl
@[simp] theorem withFetchWord_cs (s : State) (n w : Nat) : (s.withFetchWord n w).cs = s.cs := rfl
@[simp] theorem withFetchWord_ce (s : State) (n w : Nat) : (s.withFetchWord n w).ce = s.ce := rfl
@[simp] theorem withFetchWord_w (s : State) (n w : Nat) : (s.withFetchWord n w).w = s.w := rfl
@[simp] theorem withFetchWord_band (s : State) (n w : Nat) : (s.withFetchWord n w).band = s.band := rfl
@[simp] theorem withFetchWord_dnew (s : State) (n w : Nat) : (s.withFetchWord n w).dnew = s.dnew := rfl
@[simp] theorem withFetchWord_line (s : State) (n w : Nat) : (s.withFetchWord n w).line = s.line := rfl
@[simp] theorem withFetchWord_txSr (s : State) (n w : Nat) : (s.withFetchWord n w).txSr = s.txSr := rfl
@[simp] theorem withFetchWord_txIdx (s : State) (n w : Nat) : (s.withFetchWord n w).txIdx = s.txIdx := rfl
@[simp] theorem withFetchWord_ready (s : State) (n w : Nat) : (s.withFetchWord n w).ready = s.ready := rfl
@[simp] theorem withFetchWord_ovfPending (s : State) (n w : Nat) : (s.withFetchWord n w).ovfPending = s.ovfPending := rfl
@[simp] theorem withFetchWord_edgePending (s : State) (n w : Nat) : (s.withFetchWord n w).edgePending = s.edgePending := rfl
@[simp] theorem withFetchWord_txBusy (s : State) (n w : Nat) : (s.withFetchWord n w).txBusy = s.txBusy := rfl
@[simp] theorem withFetchWord_ie (s : State) (n w : Nat) : (s.withFetchWord n w).ie = s.ie := rfl
@[simp] theorem withFetchWord_ctx (s : State) (n w : Nat) : (s.withFetchWord n w).ctx = s.ctx := rfl
@[simp] theorem withFetchWord_loopState (s : State) (n w : Nat) : (s.withFetchWord n w).loopState = s.loopState := rfl
@[simp] theorem withFetchWord_mode (s : State) (n w : Nat) : (s.withFetchWord n w).mode = s.mode := rfl
@[simp] theorem withFetchWord_duty (s : State) (n w : Nat) : (s.withFetchWord n w).duty = s.duty := rfl
@[simp] theorem withFetchWord_ecPhase (s : State) (n w : Nat) : (s.withFetchWord n w).ecPhase = s.ecPhase := rfl
@[simp] theorem withFetchWord_mlPhase (s : State) (n w : Nat) : (s.withFetchWord n w).mlPhase = s.mlPhase := rfl
@[simp] theorem withFetchWord_bootPhase (s : State) (n w : Nat) : (s.withFetchWord n w).bootPhase = s.bootPhase := rfl
@[simp] theorem withFetchWord_pin (s : State) (n w : Nat) : (s.withFetchWord n w).pin = s.pin := rfl
@[simp] theorem withFetchWord_txd (s : State) (n w : Nat) : (s.withFetchWord n w).txd = s.txd := rfl
@[simp] theorem withFetchWord_wave (s : State) (n w : Nat) : (s.withFetchWord n w).wave = s.wave := rfl
@[simp] theorem withFetchWord_pwmLog (s : State) (n w : Nat) : (s.withFetchWord n w).pwmLog = s.pwmLog := rfl
@[simp] theorem withFetchWord_ticks (s : State) (n w : Nat) : (s.withFetchWord n w).ticks = s.ticks := rfl
@[simp] theorem withFetchWord_reportActive (s : State) (n w : Nat) : (s.withFetchWord n w).reportActive = s.reportActive := rfl
@[simp] theorem withFetchWord_cfg (s : State) (n w : Nat) : (s.withFetchWord n w).cfg = s.cfg := rfl
@[simp] theorem withFetchWord_schedule (s : State) (n w : Nat) : (s.withFetchWord n w).schedule = .word (tableWord n w) :: s.schedule := rfl
@[simp] theorem withFetchWord_draws (s : State) (n w : Nat) : (s.withFetchWord n w).draws = s.draws := rfl

/-! `writeDuty` -/

@[simp] theorem writeDuty_some_duty (s : State) (d : Byte) : (writeDuty s (some d)).duty = d := rfl
@[simp] theorem writeDuty_some_pwmLog (s : State) (d : Byte) : (writeDuty s (some d)).pwmLog = s.pwmLog ++ [d] := rfl
@[simp] theorem writeDuty_none_duty (s : State) : (writeDuty s none).duty = s.duty := rfl
@[simp] theorem writeDuty_none_pwmLog (s : State) : (writeDuty s none).pwmLog = s.pwmLog := rfl

/-- ML.PWMWR writes `duty`, `pwm_log` and `ml_phase` and nothing else (R168). -/
theorem writeDuty_writes (s : State) (o : Option Byte) :
    writeDuty s o =
      { s with duty := (writeDuty s o).duty, pwmLog := (writeDuty s o).pwmLog, mlPhase := .report } := by
  cases o <;> rfl

end Sys2Proof.Machine
end

