-- ==== Sys2Proof/Laws/Exec.lean ====
section
/-! SUPPORT. Each operation's meaning inverted once: it answers a next state exactly when the operation is enabled, and then
that state. Later proofs cite these and unfold no meaning. -/

namespace Sys2Proof.Machine

theorem microChecks_clear (p : EcPhase) (s : State) :
    Clear (microChecks p s) ↔ MicroReady p s := by
  simp [microChecks, MicroReady]

theorem mainChecks_clear (s : State) :
    Clear (mainChecks s) ↔ s.ctx = .main ∧ dispatchEnabled s = false := by
  simp [mainChecks]

theorem mainIdleChecks_clear (s : State) :
    Clear (mainIdleChecks s) ↔ MainReady s := by
  simp [mainIdleChecks, mainChecks, MainReady]
  tauto

theorem mainIdleChecks_append_clear (s : State) (cs : List Check) :
    Clear (mainIdleChecks s ++ cs) ↔ MainReady s ∧ Clear cs := by
  rw [clear_append, mainIdleChecks_clear]

theorem bootChecks_clear (p : BootPhase) (s : State) :
    Clear (bootChecks p s) ↔ BootReady p s := by
  simp [bootChecks, mainChecks, BootReady]

theorem txStepChecks_clear (late : Bool) (s : State) :
    Clear (txStepChecks late s) ↔ TxReady s ∧ late = false := by
  simp [txStepChecks, mainChecks, TxReady, transmitterConfigured, Configuration.baudPositive]
  tauto

theorem execReset_next (s t : State) : execReset s = .next t ↔ t = powerOn s := by
  simp [execReset, eq_comm]

theorem execTick_next (s t : State) :
    execTick s = .next t ↔
      t = { s with lo := s.lo + 1#8, ovfPending := overflowLatch s.lo s.ovfPending, ticks := s.ticks + 1 } := by
  simp [execTick, eq_comm]

theorem execPin_next (v : Level) (s t : State) :
    execPin v s = .next t ↔
      t = { s with pin := v, edgePending := edgeLatch s.pin v s.loopState s.edgePending } := by
  simp [execPin, eq_comm]

theorem execOvfIsr_next (s t : State) :
    execOvfIsr s = .next t ↔ Enabled s .ovfIsr ∧ t = overflowHandler s := by
  simp only [execOvfIsr, guarded_next_eq, Enabled, overflowDispatchable, overflowHeldBack, edgeDispatchable,
    clear_cons, clear_nil, and_true]
  cases h1 : s.ie <;> cases h2 : s.ovfPending <;> cases h3 : s.edgePending <;> simp

theorem execEcEnter_next (s t : State) :
    execEcEnter s = .next t ↔ Enabled s .ecEnter ∧ t = enterEdgeHandler s := by
  simp only [execEcEnter, guarded_next_eq, Enabled, overflowDispatchable, edgeHeldBack, edgeDispatchable,
    clear_cons, clear_nil, and_true]
  cases h1 : s.ie <;> cases h2 : s.ovfPending <;> cases h3 : s.edgePending <;> cases h4 : s.ctx <;> simp

theorem execNowSei_next (s t : State) :
    execNowSei s = .next t ↔ MicroReady .sei s ∧ t = { s with ie := true, ecPhase := .rdlo } := by
  simp [execNowSei, guarded_next_eq, microChecks_clear]

theorem execNowRdlo_next (s t : State) :
    execNowRdlo s = .next t ↔ MicroReady .rdlo s ∧ t = { s with loSnap := s.lo, ecPhase := .cli } := by
  simp [execNowRdlo, guarded_next_eq, microChecks_clear]

theorem execNowCli_next (s t : State) :
    execNowCli s = .next t ↔ MicroReady .cli s ∧ t = { s with ie := false, ecPhase := .rdhi } := by
  simp [execNowCli, guarded_next_eq, microChecks_clear]

theorem execNowRdhi_next (s t : State) :
    execNowRdhi s = .next t ↔
      MicroReady .rdhi s ∧
        t = { s with hiSnap := s.hi, snap := composeTick s.hi s.loSnap, ecPhase := .rdpin } := by
  simp [execNowRdhi, guarded_next_eq, microChecks_clear]

theorem execEcRdpin_next (s t : State) :
    execEcRdpin s = .next t ↔ MicroReady .rdpin s ∧ t = { s with lvl := s.pin, ecPhase := .store } := by
  simp [execEcRdpin, guarded_next_eq, microChecks_clear]

theorem execEcStore_next (s t : State) :
    execEcStore s = .next t ↔
      MicroReady .store s ∧
        t = { s with
          tStart := if s.lvl then s.tStart else s.snap
          tEnd := if s.lvl then s.snap else s.tEnd
          ready := readyFromLevel s.lvl
          ecPhase := .ret } := by
  simp [execEcStore, guarded_next_eq, microChecks_clear]

theorem execEcRet_next (s t : State) :
    execEcRet s = .next t ↔ MicroReady .ret s ∧ t = returnFromEdgeHandler s := by
  simp [execEcRet, guarded_next_eq, microChecks_clear]

theorem execMlClaim_next (s t : State) :
    execMlClaim s = .next t ↔
      Enabled s .mlClaim ∧
        t = { s with cs := s.tStart, ce := s.tEnd, tStart := 0#16, tEnd := 0#16, mlPhase := .width } := by
  simp [execMlClaim, guarded_next_eq, mainIdleChecks_append_clear, Enabled]

theorem execMlWidth_next (s t : State) :
    execMlWidth s = .next t ↔ Enabled s .mlWidth ∧ t = { s with w := s.ce - s.cs, mlPhase := .classify } := by
  simp [execMlWidth, guarded_next_eq, mainIdleChecks_clear, Enabled]

theorem execMlClassify_next (s t : State) :
    execMlClassify s = .next t ↔
      MainReady s ∧ ∃ v d, classify s.cfg (signed16 s.w) s.dnew = some (v, d) ∧
        t = { s with band := v, dnew := d, mlPhase := .pwmwr } := by
  rw [execMlClassify, guarded_eq_next, mainIdleChecks_clear]
  cases classify s.cfg (signed16 s.w) s.dnew with
  | none => simp
  | some p =>
    obtain ⟨v, d⟩ := p
    simp [eq_comm]

theorem execMlPwmwr_next (s t : State) :
    execMlPwmwr s = .next t ↔ Enabled s .mlPwmwr ∧ t = writeDuty s (dutyToWrite s) := by
  simp [execMlPwmwr, guarded_next_eq, mainIdleChecks_clear, Enabled]

theorem execTxStart_next (d : Byte) (s t : State) :
    execTxStart d s = .next t ↔
      Enabled s (.txStart d) ∧ t = sendLevel false { s with txSr := d, txIdx := 0, txBusy := true } := by
  have h : (s.ie = false → ¬s.loopState = .idle) ↔ (s.ie = true ∨ s.loopState = .reporting) := by
    cases s.ie <;> cases s.loopState <;> simp
  simp [execTxStart, guarded_next_eq, mainIdleChecks_append_clear, Enabled, transmitterConfigured,
    Configuration.baudPositive, h, Nat.one_le_iff_ne_zero]

theorem execTxData_next (s t : State) :
    execTxData s = .next t ↔
      Enabled s .txData ∧ t = { sendLevel (dataLevel s.txSr s.txIdx.val) s with txIdx := s.txIdx + 1 } := by
  simp [execTxData, guarded_next_eq, txStepChecks_clear, Enabled]

theorem execTxStop_next (s t : State) :
    execTxStop s = .next t ↔
      Enabled s .txStop ∧ t = { sendLevel true s with txBusy := false, txIdx := 0 } := by
  simp [execTxStop, guarded_next_eq, txStepChecks_clear, Enabled]

theorem execMlPoll_next (s t : State) :
    execMlPoll s = .next t ↔
      Enabled s .mlPoll ∧ t = { s with r := s.ready, mlPhase := if s.ready then .suspend else .poll } := by
  simp [execMlPoll, guarded_next_eq, mainIdleChecks_append_clear, Enabled]

theorem execMlSuspend_next (s t : State) :
    execMlSuspend s = .next t ↔
      Enabled s .mlSuspend ∧ t = { s with ie := false, loopState := .reporting, mlPhase := .claim } := by
  simp [execMlSuspend, guarded_next_eq, mainIdleChecks_append_clear, Enabled]

theorem execMlClrrdy_next (s t : State) :
    execMlClrrdy s = .next t ↔ Enabled s .mlClrrdy ∧ t = { s with ready := false, mlPhase := .resume } := by
  simp [execMlClrrdy, guarded_next_eq, mainIdleChecks_append_clear, Enabled]

theorem execMlResume_next (s t : State) :
    execMlResume s = .next t ↔
      Enabled s .mlResume ∧ t = { s with loopState := .idle, ie := true, mlPhase := .poll } := by
  simp [execMlResume, guarded_next_eq, mainIdleChecks_append_clear, Enabled]

theorem execCsEnter_next (s t : State) :
    execCsEnter s = .next t ↔ Enabled s .csEnter ∧ t = { s with ie := false } := by
  simp [execCsEnter, guarded_next_eq, mainIdleChecks_append_clear, Enabled]

theorem execCsLeave_next (s t : State) :
    execCsLeave s = .next t ↔ Enabled s .csLeave ∧ t = { s with ie := true } := by
  simp [execCsLeave, guarded_next_eq, mainIdleChecks_append_clear, Enabled]

theorem execBootMode_next (m : BitVec 2) (s t : State) :
    execBootMode m s = .next t ↔ BootReady .sample s ∧ t = { s with mode := m, bootPhase := .start } := by
  simp [execBootMode, guarded_next_eq, bootChecks_clear]

theorem execBootStart_next (s t : State) :
    execBootStart s = .next t ↔
      BootReady .start s ∧ t = { s with ie := true, bootPhase := .run, mlPhase := .poll } := by
  simp [execBootStart, guarded_next_eq, bootChecks_clear]

/-- ML.REPORT's first element answers exactly in REPORTING where a main-context operation may run (R203, R229). -/
theorem mlReport_next (s t : State) :
    mlReport s = .next t ↔
      (MainReady s ∧ s.loopState = .reporting) ∧ t = { s with line := lineOf s, reportActive := true } := by
  simp only [mlReport, guarded_next_eq, mainIdleChecks_append_clear, clear_cons, clear_nil, and_true]
  cases s.loopState <;> simp

end Sys2Proof.Machine
end

