-- ==== Sys2Proof/Laws/Operands.lean ====
section
/-! SUPPORT. What each operand computation gives, said once: the Tick, the signed width, digits, and the write ML.PWMWR makes. -/

namespace Sys2Proof.Machine

/-- The Tick of two bytes as a number (R63, R80). -/
theorem composeTick_toNat (high low : Byte) : (composeTick high low).toNat = 256 * high.toNat + low.toNat := by
  rw [composeTick, BitVec.toNat_append, ← Nat.shiftLeft_add_eq_or_of_lt low.isLt, Nat.shiftLeft_eq]
  omega

/-- The true tick as a number (R117). -/
theorem tickTrue_toNat (s : State) :
    (tickTrue s).toNat = (256 * s.hi.toNat + s.lo.toNat + 256 * s.ovfPending.toNat) % 65536 := by
  unfold tickTrue
  rw [BitVec.toNat_add, composeTick_toNat]
  cases s.ovfPending <;> simp

/-- With no overflow latched the two cells hold the true tick (R117). -/
theorem tickTrue_of_no_latch {s : State} (h : s.ovfPending = false) : tickTrue s = composedTick s := by
  simp [tickTrue, composedTick, h]

/-- The signed reading is in the range of a 16-bit two's complement number (R12). -/
theorem signed16_bounds (v : Tick) : -32768 ≤ signed16 v ∧ signed16 v ≤ 32767 := by
  have := v.isLt
  unfold signed16
  split <;> omega

/-- The signed reading and the value differ by a multiple of 65536 (R12). -/
theorem signed16_emod (v : Tick) : signed16 v % 65536 = v.toNat := by
  have := v.isLt
  unfold signed16
  split <;> omega

/-- A decimal digit as a number (R89). -/
theorem digitByte_toNat {n : Nat} (h : n < 10) : (digitByte n).toNat = 0x30 + n := by
  rw [digitByte, BitVec.toNat_ofNat]
  exact Nat.mod_eq_of_lt (by omega)

/-- ML.PWMWR writes the candidate duty under the continuous policy and for a width in a band (R168). -/
theorem dutyToWrite_dnew {s : State} (h : s.cfg.mapPolicy = .continuous ∨ ∃ b, s.band = .inBand b) :
    dutyToWrite s = some s.dnew := by
  unfold dutyToWrite
  rcases h with h | ⟨b, h⟩
  · rw [h]
  · rw [h]
    cases s.cfg.mapPolicy <;> rfl

/-- Otherwise it writes the default or nothing, as the out-of-range policy says (R168). -/
theorem dutyToWrite_outOfRange {s : State} (h : ¬(s.cfg.mapPolicy = .continuous ∨ ∃ b, s.band = .inBand b)) :
    dutyToWrite s = if s.cfg.oorPolicy = .toDefault then some s.cfg.defaultDuty else none := by
  unfold dutyToWrite
  cases hp : s.cfg.mapPolicy <;> cases hb : s.band <;> cases ho : s.cfg.oorPolicy <;> simp_all

end Sys2Proof.Machine
end

