-- ==== Sys2Proof/Laws/PerInstr.lean ====
section
/-! SUPPORT. A fact about every instruction as syntax, one lemma per constructor: it is well-formed, and the operand field
of its command word holds its operand (spec/30_encoding.md R92, R93). -/

namespace Sys2Proof.Laws.OperandField

/-- The operand fits its format and stands, unsigned and unshifted, in the low byte of the command word (R92, R93). -/
def Statement (i : Instr) : Prop :=
  i.wellFormed = true ∧ (argField (encode i)).toNat = i.operand

theorem reset : Statement .reset := ⟨rfl, rfl⟩
theorem tick : Statement .tick := ⟨rfl, rfl⟩
theorem ovfIsr : Statement .ovfIsr := ⟨rfl, rfl⟩
theorem nowSei : Statement .nowSei := ⟨rfl, rfl⟩
theorem nowRdlo : Statement .nowRdlo := ⟨rfl, rfl⟩
theorem nowCli : Statement .nowCli := ⟨rfl, rfl⟩
theorem nowRdhi : Statement .nowRdhi := ⟨rfl, rfl⟩
theorem pin (v : Level) : Statement (.pin v) := by
  cases v <;> exact ⟨rfl, rfl⟩
theorem ecEnter : Statement .ecEnter := ⟨rfl, rfl⟩
theorem ecRdpin : Statement .ecRdpin := ⟨rfl, rfl⟩
theorem ecStore : Statement .ecStore := ⟨rfl, rfl⟩
theorem ecRet : Statement .ecRet := ⟨rfl, rfl⟩
theorem mlClaim : Statement .mlClaim := ⟨rfl, rfl⟩
theorem mlWidth : Statement .mlWidth := ⟨rfl, rfl⟩
theorem mlClassify : Statement .mlClassify := ⟨rfl, rfl⟩
theorem mlPwmwr : Statement .mlPwmwr := ⟨rfl, rfl⟩
theorem txStart (d : Byte) : Statement (.txStart d) := by
  refine ⟨decide_eq_true d.isLt, ?_⟩
  simp only [argField, encode, Instr.operand, BitVec.extractLsb'_append_eq_right]
theorem txData : Statement .txData := ⟨rfl, rfl⟩
theorem txStop : Statement .txStop := ⟨rfl, rfl⟩
theorem mlPoll : Statement .mlPoll := ⟨rfl, rfl⟩
theorem mlSuspend : Statement .mlSuspend := ⟨rfl, rfl⟩
theorem mlClrrdy : Statement .mlClrrdy := ⟨rfl, rfl⟩
theorem mlResume : Statement .mlResume := ⟨rfl, rfl⟩
theorem csEnter : Statement .csEnter := ⟨rfl, rfl⟩
theorem csLeave : Statement .csLeave := ⟨rfl, rfl⟩
theorem bootMode (m : BitVec 2) : Statement (.bootMode m) := by
  refine ⟨decide_eq_true m.isLt, ?_⟩
  revert m
  decide
theorem bootStart : Statement .bootStart := ⟨rfl, rfl⟩

end Sys2Proof.Laws.OperandField
end

