-- ==== Sys2Proof/Tests/Slice0.lean ====
section
/-! SUPPORT. Tests: words written out from the encoding table, one step or frame at a time on the vectors of
spec/95_test_vectors.md, ill-formed terms that the checks refuse, and a witness for the hypotheses of every statement. -/

namespace Sys2Proof.Tests

open Sys2Proof.Machine

/-! ## Words, from spec/30_encoding.md R100 and vectors V62 -/

theorem test_decode_reset : decode 0b0000000000000000#16 = .ok .reset := by decide
theorem test_decode_tick : decode 0b0000000100000000#16 = .ok .tick := by decide
theorem test_decode_ovfIsr : decode 0b0000001000000000#16 = .ok .ovfIsr := by decide
theorem test_decode_nowSei : decode 0b0000010000000000#16 = .ok .nowSei := by decide
theorem test_decode_nowRdlo : decode 0b0000010100000000#16 = .ok .nowRdlo := by decide
theorem test_decode_nowCli : decode 0b0000011000000000#16 = .ok .nowCli := by decide
theorem test_decode_nowRdhi : decode 0b0000011100000000#16 = .ok .nowRdhi := by decide
theorem test_decode_pin0 : decode 0b0001000000000000#16 = .ok (.pin false) := by decide
theorem test_decode_pin1 : decode 0b0001000000000001#16 = .ok (.pin true) := by decide
theorem test_decode_ecEnter : decode 0b0001000100000000#16 = .ok .ecEnter := by decide
theorem test_decode_ecRdpin : decode 0b0001001000000000#16 = .ok .ecRdpin := by decide
theorem test_decode_ecStore : decode 0b0001001100000000#16 = .ok .ecStore := by decide
theorem test_decode_ecRet : decode 0b0001010000000000#16 = .ok .ecRet := by decide
theorem test_decode_mlClaim : decode 0b0010000000000000#16 = .ok .mlClaim := by decide
theorem test_decode_mlWidth : decode 0b0010000100000000#16 = .ok .mlWidth := by decide
theorem test_decode_mlClassify : decode 0b0010100000000000#16 = .ok .mlClassify := by decide
theorem test_decode_mlPwmwr : decode 0b0010100100000000#16 = .ok .mlPwmwr := by decide
theorem test_decode_txStart : decode 0b0011000001000001#16 = .ok (.txStart 0x41#8) := by decide
theorem test_decode_txStart_ff : decode 0b0011000011111111#16 = .ok (.txStart 0xFF#8) := by decide
theorem test_decode_txData : decode 0b0011000100000000#16 = .ok .txData := by decide
theorem test_decode_txStop : decode 0b0011001000000000#16 = .ok .txStop := by decide
theorem test_decode_mlPoll : decode 0b0100000000000000#16 = .ok .mlPoll := by decide
theorem test_decode_mlSuspend : decode 0b0100000100000000#16 = .ok .mlSuspend := by decide
theorem test_decode_mlClrrdy : decode 0b0100001000000000#16 = .ok .mlClrrdy := by decide
theorem test_decode_mlResume : decode 0b0100001100000000#16 = .ok .mlResume := by decide
theorem test_decode_csEnter : decode 0b0100010000000000#16 = .ok .csEnter := by decide
theorem test_decode_csLeave : decode 0b0100010100000000#16 = .ok .csLeave := by decide
theorem test_decode_bootMode2 : decode 0b0100100000000010#16 = .ok (.bootMode 2#2) := by decide
theorem test_decode_bootStart : decode 0b0100100100000000#16 = .ok .bootStart := by decide
theorem test_decode_invalid_V62 :
    ([0x0300#16, 0x0101#16, 0x1002#16, 0x4804#16, 0x4600#16, 0xFFFF#16, 0x3101#16, 0x0800#16].map
      fun w => (decode w).isOk) = List.replicate 8 false := by decide
theorem test_tableWord_short_row : decodeTableWord 8 0x03 = none ∧ decodeTableWord 16 0x3041 = some (.txStart 0x41#8) := by
  decide

/-! ## Well-formedness: one ill-formed term for each check -/

/-- The configuration CFG-V of spec/95_test_vectors.md. -/
def cfgV : Configuration where
  baud := 19200
  modeJumpers := 2#2
  supplyMv := 3300
  bands :=
    [⟨"low", 1100, 210, 105, .const 0#8, [0x30#8]⟩,
     ⟨"mid", 1520, 105, 105, .mv 1250, [0x31#8]⟩,
     ⟨"high", 1940, 105, 210, .const 255#8, [0x32#8]⟩]
  mapPolicy := .banded
  oorPolicy := .hold
  defaultDuty := 17#8
  inMin := 1000
  inMax := 2000
  oorText := [0x3F#8]
  irqPriority := .either
  tickUs := 1

/-- CFG-V with the continuous policy. -/
def cfgC : Configuration := { cfgV with mapPolicy := .continuous }

theorem test_cfgV_ok : classifierConfigured cfgV = true ∧ transmitterConfigured cfgV = true := by decide
theorem test_level_operand_2_illFormed : Format.fits .l 2 = false := by decide
theorem test_mode_operand_4_illFormed : Format.fits .m 4 = false := by decide
theorem test_byte_operand_256_illFormed : Format.fits .b 256 = false := by decide
theorem test_no_operand_1_illFormed : Format.fits .e 1 = false := by decide
theorem test_baud_0_illFormed : ({ cfgV with baud := 0 }).baudPositive = false := by decide
theorem test_supply_0_illFormed : ({ cfgV with supplyMv := 0 }).supplyPositive = false := by decide
theorem test_no_bands_illFormed : ({ cfgV with bands := [] }).bandsNonEmpty = false := by decide
theorem test_tolerance_0_illFormed :
    ({ cfgV with bands := [⟨"x", 9, 0, 1, .const 0#8, []⟩] }).tolerancesPositive = false := by decide
theorem test_target_over_supply_illFormed : ({ cfgV with supplyMv := 1249 }).targetsWithinSupply = false := by decide
theorem test_span_0_illFormed : ({ cfgV with inMax := 1000 }).spanPositive = false := by decide

/-! ## States the tests start from -/

/-- A field of the state an answer goes on to. -/
def field {α : Type} (a : Answer) (f : State → α) : Option α :=
  match a with
  | .next t => some (f t)
  | .fault _ => none
  | .refused _ => none

/-- The reason an answer refuses for. -/
def reason (a : Answer) : Option Refusal :=
  match a with
  | .next _ => none
  | .fault _ => none
  | .refused r => some r

/-- Booted under CFG-V, in IDLE, delivery on, nothing pending. -/
def booted : State := { State.reset with bootPhase := .run, ie := true, cfg := cfgV, mode := 2#2 }

/-- Not booted yet, under CFG-V. -/
def unbooted : State := { State.reset with cfg := cfgV, hi := 3 }

/-- Suspended: `loop_state = REPORTING`, delivery off. -/
def suspended : State := { booted with loopState := .reporting, ie := false }

/-- In the edge handler at a phase, delivery off. -/
def inHandler (p : EcPhase) : State := { booted with ctx := .edge, ecPhase := p, ie := false }

/-- A byte in flight. -/
def sending (d : Byte) (k : Fin 9) : State := { booted with txBusy := true, txSr := d, txIdx := k }

/-! ## Single operations, by vector -/

theorem test_reset_V61a :
    field (exec .reset { suspended with hi := 9, ready := true, pin := false })
      (fun t => (t.hi, t.ie, t.bootPhase, t.txd, t.pin)) = some (0, false, .sample, true, false) := by decide
theorem test_tick_wrap_V2 :
    field (exec .tick { booted with lo := 0xFF }) (fun t => (t.lo, t.ovfPending, t.ticks)) = some (0, true, 1) := by decide
theorem test_tick_lost_V3 :
    field (exec .tick { booted with lo := 0xFF, ovfPending := true, hi := 0x10, ie := false })
      (fun t => (t.lo, t.ovfPending, t.hi)) = some (0, true, 0x10) := by decide
theorem test_ovfIsr_V6 :
    field (exec .ovfIsr { booted with hi := 0xFF, ovfPending := true }) (fun t => (t.hi, t.ovfPending, t.ie)) =
    some (0, false, true) := by decide
theorem test_ovfIsr_V7 : reason (exec .ovfIsr { booted with ovfPending := true, ie := false }) = some .noLatch := by decide
theorem test_nowSei_R113 :
    field (exec .nowSei (inHandler .sei)) (fun t => (t.ie, t.ecPhase)) = some (true, .rdlo) := by decide
theorem test_nowSei_V17 : reason (exec .nowSei booted) = some .wrongContext := by decide
theorem test_nowRdlo_R114 :
    field (exec .nowRdlo { inHandler .rdlo with ie := true, lo := 0x3C }) (fun t => (t.loSnap, t.ecPhase)) =
    some (0x3C, .cli) := by decide
theorem test_nowRdlo_V12 :
    reason (exec .nowRdlo { inHandler .rdlo with ie := true, ovfPending := true }) = some .dispatchPending := by decide
theorem test_nowCli_R115 :
    field (exec .nowCli { inHandler .cli with ie := true }) (fun t => (t.ie, t.ecPhase)) = some (false, .rdhi) := by decide
theorem test_nowRdhi_V16 :
    field (exec .nowRdhi { inHandler .rdhi with hi := 0xFF, loSnap := 0xFF }) (fun t => t.snap) = some 0xFFFF := by decide
theorem test_nowRdhi_V18 : reason (exec .nowRdhi { inHandler .rdlo with ie := true }) = some .wrongPhase := by decide
theorem test_pin_V20 : field (exec (.pin false) booted) (fun t => (t.pin, t.edgePending)) = some (false, true) := by decide
theorem test_pin_dropped_V21 :
    field (exec (.pin false) suspended) (fun t => (t.pin, t.edgePending)) = some (false, false) := by decide
theorem test_ecEnter_V26 :
    field (exec .ecEnter { sending 0x41 3 with edgePending := true })
      (fun t => (t.ie, t.edgePending, t.ctx, t.ecPhase, t.txBusy, t.txIdx)) =
    some (false, false, .edge, .sei, true, 3) := by decide
theorem test_ecEnter_V27 :
    reason (exec .ecEnter { inHandler .rdlo with ie := true, edgePending := true }) = some .wrongContext := by decide
theorem test_ecRdpin_V30 :
    field (exec .ecRdpin (inHandler .rdpin)) (fun t => (t.lvl, t.ecPhase)) = some (true, .store) := by decide
theorem test_ecStore_V31 :
    field (exec .ecStore { inHandler .store with snap := 0x0FA0, tStart := 1, tEnd := 0x0123, ready := true })
      (fun t => (t.tStart, t.tEnd, t.ready, t.ecPhase)) = some (0x0FA0, 0x0123, false, .ret) := by decide
theorem test_ecStore_V32 :
    field (exec .ecStore { inHandler .store with lvl := true, snap := 0x1590, tStart := 0x0FA0 })
      (fun t => (t.tStart, t.tEnd, t.ready)) = some (0x0FA0, 0x1590, true) := by decide
theorem test_ecRet_V33 : field (exec .ecRet (inHandler .ret)) (fun t => (t.ctx, t.ie)) = some (.main, true) := by decide
theorem test_mlClaim_V40 :
    field (exec .mlClaim { booted with ie := false, tStart := 0x1111, tEnd := 0x2222 })
      (fun t => (t.cs, t.ce, t.tStart, t.tEnd)) = some (0x1111, 0x2222, 0, 0) := by decide
theorem test_mlClaim_V39 : reason (exec .mlClaim booted) = some .needsCriticalSection := by decide
theorem test_mlWidth_V42 :
    field (exec .mlWidth { suspended with cs := 0xFFF0, ce := 0x05E0 }) (fun t => (t.w, signed16 t.w)) =
    some (0x05F0, 1520) := by decide
theorem test_mlWidth_V45 :
    field (exec .mlWidth { suspended with ce := 0x8000 }) (fun t => signed16 t.w) = some (-32768) := by decide
theorem test_mlClassify_V58b :
    field (exec .mlClassify { suspended with w := 0x06F0, dnew := 97 }) (fun t => (t.band, t.dnew)) =
    some (.out .between, 97) := by decide
theorem test_mlClassify_V58g :
    field (exec .mlClassify { suspended with w := 0x05F0, cfg := cfgC }) (fun t => (t.band, t.dnew, t.mlPhase)) =
    some (.none, 133, .pwmwr) := by decide
theorem test_mlPwmwr_V58a :
    field (runOps [.mlClassify, .mlPwmwr] { suspended with w := 0x05F0 })
      (fun t => (t.duty, t.pwmLog, t.mlPhase)) = some (97, [97], .report) := by decide
theorem test_mlPwmwr_V58c :
    field (exec .mlPwmwr { suspended with band := .out .between, cfg := { cfgV with oorPolicy := .toDefault } })
      (fun t => (t.duty, t.pwmLog)) = some (17, [17]) := by decide
theorem test_txStart_V53a :
    field (exec (.txStart 0x41) booted) (fun t => (t.txSr, t.txBusy, t.wave)) =
    some (0x41, true, [(false, mkRat 625 12)]) := by decide
theorem test_txStart_V53h :
    reason (exec (.txStart 0x41) { booted with ie := false }) = some .blockingInCriticalSection := by decide
theorem test_txData_V53c :
    field (exec .txData (sending 0x41 1)) (fun t => (t.txd, t.txIdx)) = some (false, 2) := by decide
theorem test_txData_V53f : reason (exec .txData (sending 0x41 8)) = some .wrongPhase := by decide
theorem test_txStop_V53d :
    field (exec .txStop (sending 0x41 8)) (fun t => (t.txd, t.txBusy, t.txIdx)) = some (true, false, 0) := by decide
theorem test_txStop_V53e : reason (exec .txStop (sending 0x41 3)) = some .wrongPhase := by decide
theorem test_mlPoll_V60b :
    field (exec .mlPoll { booted with ready := true }) (fun t => (t.r, t.mlPhase)) = some (true, .suspend) := by decide
theorem test_mlPoll_V53g : reason (exec .mlPoll (sending 0 3)) = some .txBlocked := by decide
theorem test_mlSuspend_V60c :
    field (exec .mlSuspend { booted with r := true }) (fun t => (t.ie, t.loopState, t.mlPhase)) =
    some (false, .reporting, .claim) := by decide
theorem test_mlSuspend_V60d : reason (exec .mlSuspend booted) = some .notObserved := by decide
theorem test_mlClrrdy_V60e :
    field (exec .mlClrrdy { suspended with ready := true }) (fun t => (t.ready, t.mlPhase)) = some (false, .resume) := by
  decide
theorem test_mlResume_V60g :
    field (runOps [.mlResume, .ovfIsr] { suspended with ovfPending := true, hi := 8 })
      (fun t => (t.loopState, t.ie, t.hi, t.ovfPending)) = some (.idle, true, 9, false) := by decide
theorem test_mlResume_V60h : reason (exec .mlResume booted) = some .notReporting := by decide
theorem test_csEnter_V60j : reason (exec .csEnter { booted with ie := false }) = some .nestedCriticalSection := by decide
theorem test_csLeave_V60l : reason (exec .csLeave booted) = some .notInCriticalSection := by decide
theorem test_csLeave_V60m : reason (exec .csLeave suspended) = some .notIdle := by decide
theorem test_bootMode_V61d :
    field (exec (.bootMode 1) State.reset) (fun t => (t.mode, t.bootPhase)) = some (1, .start) := by decide
theorem test_bootMode_V61e :
    reason (exec (.bootMode 2) { State.reset with bootPhase := .start }) = some .bootOrder := by decide
theorem test_bootStart_V61c : reason (exec .bootStart State.reset) = some .bootOrder := by decide
theorem test_boot_blocks_loop_V61b : reason (exec .mlPoll State.reset) = some .notBooted := by decide

/-! ## Functions, by vector -/

theorem test_dutyFromMv_V55 :
    [dutyFromMv 1250 3300, dutyFromMv 1650 3300, dutyFromMv 6 3300, dutyFromMv 7 3300, dutyFromMv 1 5, dutyFromMv 1 1,
      dutyFromMv 3301 3300, dutyFromMv 5 0] =
    [some 97, some 128, some 0, some 1, some 51, some 255, none, none] := by decide
theorem test_remap_V57 :
    [remap cfgC 1520, remap cfgC 900, remap cfgC 2100, remap cfgC 1001, remap cfgC 1002, remap cfgC 1998, remap cfgC 1999] =
    [some 133, some 0, some 255, some 0, some 1, some 254, some 255] := by decide
theorem test_classifyBand_V56 :
    ([891, 890, 1204, 1205, 1415, 1416, 1625, 2149, 2150, -32768].map fun x =>
      match classifyBand cfgV.bands x with
      | .inBand b => b.code
      | .out .below => [0]
      | .out .between => [1]
      | .out .above => [2]
      | .none => []) =
    [[0x30], [0], [0x30], [1], [1], [0x31], [1], [0x32], [2], [0]] := by decide
theorem test_line_V59d :
    diagnosticLine cfgV 1 0x8000 (.out .below) 0 =
    [0x31, 0x09, 0x2D, 0x33, 0x32, 0x37, 0x36, 0x38, 0x09, 0x3F, 0x0D, 0x0A] := by decide
theorem test_line_V59e :
    diagnosticLine cfgC 0 0x05F0 .none 133 =
    [0x30, 0x09, 0x31, 0x35, 0x32, 0x30, 0x09, 0x31, 0x33, 0x33, 0x0D, 0x0A] := by decide
theorem test_frame_V46 :
    field (runOps (txbOps 0x41) booted) (fun t => t.wave.map Prod.fst) =
    some [false, true, false, false, false, false, false, true, false, true] := by decide
theorem test_lineUs_V54c : lineUs cfgV 10 = mkRat 15625 3 := by
  norm_num [lineUs, byteUs, bitUs, cfgV, Rat.mkRat_eq_div]
theorem test_lineTicks_needs_positive_TICK_US : lineTicks { cfgV with tickUs := 0 } 10 = none := by
  simp [lineTicks]
theorem test_memRead_R61 :
    memRead { booted with tStart := 0x1234 } 2 2 = some 0x1234 ∧ memRead booted 2 1 = none ∧ memRead booted 7 1 = none := by
  decide

/-! ## Steps -/

theorem test_step_word :
    field (step { booted with schedule := [.word 0x0100#16, .canonical] }) (fun t => (t.lo, t.schedule)) =
    some (1, [.canonical]) := by decide
theorem test_step_invalid_word : reason (step { booted with schedule := [.word 0x0300#16] }) = some .invalidWord := by decide
theorem test_withFetchWord :
    field (step (State.reset.withFetchWord 16 0x4802)) (fun t => (t.mode, t.bootPhase, t.schedule)) =
    some (2, .start, []) := by decide
theorem test_canonical_boot :
    field (step { State.reset with cfg := cfgV, schedule := [.canonical] }) (fun t => (t.mode, t.bootPhase)) =
    some (2, .start) := by decide
theorem test_canonical_overflow_first :
    field (canonicalTurn { booted with ovfPending := true, edgePending := true, cfg := { cfgV with irqPriority := .ovfFirst } })
      (fun t => (t.hi, t.ovfPending, t.edgePending)) = some (1, false, true) := by decide
theorem test_report_starts_with_mode_digit_V59a :
    field (canonicalTurn { suspended with mlPhase := .report, w := 0x05F0, band := .out .below }) (fun t => (t.txSr, t.line.length)) =
    some (0x32, 9) := by decide
theorem test_report_composes_for_any_host_V59b :
    field (step { suspended with mlPhase := .width, w := 0x05F0, band := .out .below, schedule := [.report] })
      (fun t => (t.line, t.reportActive, t.mlPhase)) =
    some ([0x32, 0x09, 0x31, 0x35, 0x32, 0x30, 0x09, 0x3F, 0x0D, 0x0A], true, .width) := by decide
theorem test_report_refused_in_idle_R222 :
    [step { booted with schedule := [.report] }, canonicalTurn { booted with mlPhase := .report },
      canonicalTurn { booted with mlPhase := .report, line := [0x32] }].map reason =
    List.replicate 3 (some .notReporting) := by decide
theorem test_report_goes_to_clrrdy_after_last_stop_R203 :
    field (runOp .txStop { sending 0x0A 8 with loopState := .reporting, ie := false, reportActive := true, mlPhase := .width })
      (fun t => (t.mlPhase, t.reportActive)) = some (.clrrdy, false) := by decide
theorem test_report_ends_with_another_operation :
    field (runOp .mlWidth { suspended with reportActive := true, line := [0x0A] }) (fun t => t.reportActive) =
    some false := by decide

/-! ## Witnesses: states that meet the hypotheses of the statements -/

theorem inv_booted : StateInv booted := by
  constructor <;> decide
theorem inv_suspended : StateInv suspended := by
  constructor <;> decide
theorem inv_unbooted : StateInv unbooted := by
  constructor <;> decide
theorem loopInv_booted : LoopInv booted := by
  constructor <;> decide
theorem mainReady_booted : MainReady booted := by
  unfold MainReady; decide
theorem mainReady_suspended : MainReady suspended := by
  unfold MainReady; decide

theorem witness_OverflowHandlerIncrementsHigh :
    ({ booted with ovfPending := true }).ie = true ∧ ({ booted with ovfPending := true }).ovfPending = true ∧
      ¬(cfgV.irqPriority = .edgeFirst ∧ booted.edgePending = true ∧ booted.ctx = .main) ∧
      ¬(booted.ie = true ∧ booted.ovfPending = true) := by decide
theorem witness_NowSeiOpensTheWindow :
    MicroReady .sei { inHandler .sei with ovfPending := true } ∧ ¬MicroReady .sei booted ∧
      Instr.agent .nowRdlo = .cpu := by
  unfold MicroReady; decide
theorem witness_NowRdloReadsTheLowByte :
    MicroReady .rdlo { inHandler .rdlo with ie := true } ∧
      ¬MicroReady .rdlo { inHandler .rdlo with ie := true, ovfPending := true } := by
  unfold MicroReady; decide
theorem witness_NowCliClosesTheWindow :
    MicroReady .cli { inHandler .cli with ie := true } ∧ ¬MicroReady .cli (inHandler .rdlo) := by
  unfold MicroReady; decide
theorem witness_NowRdhiComposesTheSnapshot : MicroReady .rdhi (inHandler .rdhi) ∧ ¬MicroReady .rdhi booted := by
  unfold MicroReady; decide
theorem witness_PinLatchesOrDropsTheEdge :
    true = booted.pin ∧ (false ≠ booted.pin ∧ booted.loopState = .idle) ∧
      (false ≠ suspended.pin ∧ suspended.loopState = .reporting) := by decide
theorem witness_EdgeHandlerEntry :
    ({ booted with edgePending := true }).ie = true ∧ ({ booted with edgePending := true }).edgePending = true ∧
      booted.ctx = .main ∧ ¬(cfgV.irqPriority = .ovfFirst ∧ booted.ovfPending = true) ∧
      ¬(booted.ie = true ∧ booted.edgePending = true) := by decide
theorem witness_EcRdpinReadsTheLevel : MicroReady .rdpin (inHandler .rdpin) ∧ ¬MicroReady .rdpin booted := by
  unfold MicroReady; decide
theorem witness_EcStoreFilesTheTimestamp :
    MicroReady .store (inHandler .store) ∧ (inHandler .store).lvl = false ∧
      MicroReady .store { inHandler .store with lvl := true } ∧ ¬MicroReady .store booted := by
  unfold MicroReady; decide
theorem witness_EdgeHandlerReturn :
    MicroReady .ret { inHandler .ret with edgePending := true } ∧ MicroReady .ret { inHandler .ret with ovfPending := true } ∧
      ¬MicroReady .ret booted := by
  unfold MicroReady; decide
theorem witness_MlClaimCopiesAndClears_MlClrrdyClearsReady :
    MainReady suspended ∧ suspended.ie = false ∧ ¬(MainReady booted ∧ booted.ie = false) := by
  unfold MainReady; decide
theorem witness_MlWidthSubtracts : MainReady booted ∧ ¬MainReady State.reset := by
  unfold MainReady; decide
theorem witness_MlClassifyBandAndDuty :
    MainReady suspended ∧ classifierConfigured cfgV = true ∧ cfgV.mapPolicy = .banded ∧
      classifierConfigured cfgC = true ∧ cfgC.mapPolicy = .continuous ∧ MainReady { suspended with cfg := cfgC } ∧
      ¬MainReady { State.reset with cfg := cfgV } := by
  unfold MainReady; decide
theorem witness_MlPwmwrWritesOrHolds :
    MainReady { suspended with cfg := cfgC } ∧ cfgC.mapPolicy = .continuous ∧
      ¬(cfgV.mapPolicy = .continuous ∨ ∃ b, suspended.band = .inBand b) ∧ cfgV.oorPolicy = .hold ∧
      ({ cfgV with oorPolicy := .toDefault }).oorPolicy = .toDefault ∧ ¬MainReady State.reset := by
  refine ⟨by unfold MainReady; decide, rfl, ?_, rfl, rfl, by unfold MainReady; decide⟩
  rintro (h | ⟨b, h⟩)
  · exact absurd h (by decide)
  · exact absurd h (by simp [suspended, booted, State.reset])
theorem witness_TxStartLoadsAndSendsStartBit_FrameOnTheWire_PrintSendsFramesInOrder :
    MainReady booted ∧ (booted.ie = true ∨ booted.loopState = .reporting) ∧ 1 ≤ booted.cfg.baud ∧
      inReport booted = false ∧ MainReady suspended ∧ (suspended.ie = true ∨ suspended.loopState = .reporting) ∧
      inReport suspended = false ∧ 1 ≤ cfgV.baud ∧ ¬MainReady { State.reset with cfg := cfgV } := by
  unfold MainReady; decide
theorem witness_TxDataSendsTheNextBit :
    TxReady (sending 0x41 0) ∧ (sending 0x41 0).txIdx.val ≤ 7 ∧ TxReady (sending 0x41 7) ∧ (sending 0x41 7).txIdx.val ≤ 7 ∧
      ¬(TxReady (sending 0x41 8) ∧ (sending 0x41 8).txIdx.val ≤ 7) := by
  unfold TxReady; decide
theorem witness_TxStopReturnsToIdle :
    TxReady (sending 0x41 8) ∧ (sending 0x41 8).txIdx.val = 8 ∧
      ¬(TxReady (sending 0x41 7) ∧ (sending 0x41 7).txIdx.val = 8) := by
  unfold TxReady; decide
theorem witness_MlPollObservesReady :
    MainReady booted ∧ booted.loopState = .idle ∧ booted.ready = false ∧ MainReady { booted with ready := true } ∧
      ¬(MainReady suspended ∧ suspended.loopState = .idle) := by
  unfold MainReady; decide
theorem witness_MlSuspendHoldsDelivery :
    MainReady { booted with r := true } ∧ booted.loopState = .idle ∧ booted.ie = true ∧
      ¬(MainReady booted ∧ booted.loopState = .idle ∧ booted.ie = true ∧ booted.r = true) := by
  unfold MainReady; decide
theorem witness_MlResumeEnablesDelivery :
    MainReady suspended ∧ suspended.loopState = .reporting ∧ ¬(MainReady booted ∧ booted.loopState = .reporting) := by
  unfold MainReady; decide
theorem witness_CriticalSectionAcquireRelease :
    MainReady booted ∧ booted.loopState = .idle ∧ booted.ie = true ∧ MainReady { booted with ie := false } ∧
      ¬(MainReady suspended ∧ suspended.loopState = .idle ∧ suspended.ie = true) ∧
      ¬(MainReady booted ∧ booted.loopState = .idle ∧ booted.ie = false) := by
  unfold MainReady; decide
theorem witness_BootStepsRunInOrder_OnlyBootStepsBeforeStart :
    StateInv unbooted ∧ unbooted.bootPhase = .sample ∧ StateInv { unbooted with bootPhase := .start } ∧
      StateInv booted ∧ booted.bootPhase = .run := by
  refine ⟨inv_unbooted, rfl, ?_, inv_booted, rfl⟩
  constructor <;> decide
theorem witness_EncodeAfterDecode :
    decode 0x30FF#16 = .ok (.txStart 0xFF#8) ∧ ∀ i, encode i ≠ 0x3101#16 := by
  refine ⟨by decide, fun i h => ?_⟩
  cases i
  case pin v => cases v <;> exact absurd h (by decide)
  case txStart d => revert h; revert d; decide
  case bootMode m => revert h; revert m; decide
  all_goals exact absurd h (by decide)
theorem witness_StepRunsTheDecodedOperation :
    ({ booted with schedule := [.word 0x4000#16] }).schedule = .word 0x4000#16 :: [] ∧ decode 0x4000#16 = .ok .mlPoll ∧
      decode 0x0300#16 = .error (.unknownOperation 0x03#8) ∧ inReport booted = false ∧ booted.reportActive = false ∧
      (field (exec .mlPoll booted) (fun t => t.r)).isSome = true ∧ booted.schedule = [] ∧
      reason (exec .mlPoll suspended) = some .notIdle := by decide
theorem witness_RunsExactlyWhenEnabled : Enabled booted .mlPoll ∧ ¬Enabled suspended .mlPoll := by
  simp only [Enabled, MainReady]; decide
theorem witness_StepKeepsReachableInvariants :
    StateInv { booted with schedule := [.word 0x4100#16], r := true } ∧
      (field (step { booted with schedule := [.word 0x4100#16], r := true }) (fun t => t.ie)) = some false := by
  refine ⟨?_, by decide⟩
  constructor <;> decide
theorem witness_CanonicalLoopKeepsItsPosition_CanonicalLoopIsNeverStuck :
    StateInv booted ∧ LoopInv booted ∧ classifierConfigured booted.cfg = true ∧ 1 ≤ booted.cfg.baud ∧
      (field (canonicalTurn booted) (fun t => t.mlPhase)) = some .poll ∧ isInput .tick = true ∧
      (field (runOp .tick booted) (fun t => t.lo)) = some 1 ∧
      StateInv { suspended with mlPhase := .report } ∧ LoopInv { suspended with mlPhase := .report } ∧
      (field (mlReport { suspended with mlPhase := .report }) (fun t => t.reportActive)) = some true := by
  refine ⟨inv_booted, loopInv_booted, by decide, by decide, by decide, by decide, by decide, ?_, ?_, by decide⟩
  all_goals constructor <;> decide
theorem witness_CanonicalLoopIsNeverStuck_spins :
    MainReady booted ∧ booted.loopState = .idle ∧ booted.mlPhase = .poll ∧ booted.ready = false ∧ booted.schedule = [] ∧
      ∀ n, isInput (if n % 2 = 0 then .tick else .pin (decide (n % 4 = 1))) = true := by
  refine ⟨mainReady_booted, rfl, rfl, rfl, rfl, fun n => ?_⟩
  split <;> rfl
theorem witness_DispatchComesBeforeTheProcessor :
    ({ booted with ovfPending := true }).ie = true ∧ ({ booted with ovfPending := true }).ovfPending = true ∧
      ({ booted with edgePending := true }).edgePending = true ∧ booted.ctx = .main ∧ Instr.agent .mlPoll = .cpu := by decide
theorem witness_HandlerHasOneNextStep :
    (inHandler .store).ctx = .edge ∧ dispatchEnabled (inHandler .store) = false ∧ Instr.agent .ecStore = .cpu := by decide
theorem witness_ByteInFlightBlocksTheRest :
    TxReady (sending 0x41 7) ∧ TxReady (sending 0x41 8) ∧ Instr.agent .txStop = .cpu := by
  unfold TxReady; decide
theorem witness_SuspensionHoldsBothHandlers : StateInv suspended ∧ suspended.loopState = .reporting :=
  ⟨inv_suspended, rfl⟩
theorem witness_ModeIsImmutableAfterBoot :
    (field (step { booted with schedule := [.word 0x0000#16] }) (fun t => t.bootPhase)) = some .sample ∧
      (field (step { booted with schedule := [.word 0x4000#16] }) (fun t => t.mode)) = some 2#2 ∧
      booted.bootPhase ≠ .sample := by decide
theorem witness_SharedCellsHaveOneOwner :
    field (exec .tick { booted with lo := 0xFF }) (fun t => (t.lo, t.ovfPending)) = some (0, true) ∧
      Instr.tick ≠ .reset ∧
      field (exec .mlClaim { suspended with tStart := 7, tEnd := 9 }) (fun t => (t.tStart, t.tEnd)) = some (0, 0) ∧
      field (exec .ovfIsr { booted with ovfPending := true }) (fun t => (t.hi, t.ovfPending)) = some (1, false) ∧
      field (exec .mlClrrdy { suspended with ready := true }) (fun t => t.ready) = some false := by decide
theorem witness_ConfigurationAndScheduleAreNotWritten :
    (field (exec .reset booted) (fun t => t.bootPhase)) = some .sample ∧
      (field (exec .mlPoll booted) (fun t => t.r)) = some false := by decide
theorem witness_GhostAndTracesAreNeverRead :
    SameButGhost booted { booted with ticks := 7, pwmLog := [1] } ∧
      (field (exec .tick booted) (fun t => t.ticks)) = some 1 ∧ reason (exec .mlResume booted) = some .notReporting := by
  refine ⟨rfl, by decide, by decide⟩
theorem witness_CellsAreReadAndWrittenWhole :
    (memWrite booted 3 2 0xFFFF).map (fun t => (t.tEnd, memRead t 3 2, memRead t 2 2)) =
      some (0xFFFF, some 0xFFFF, some 0) ∧
      (memWrite booted 4 1 1).map (fun t => t.ready) = some true ∧ (memWrite booted 6 1 3).map (fun t => t.mode) = some 3 ∧
      [memWrite booted 0 1 256, memWrite booted 3 2 65536, memWrite booted 4 1 2, memWrite booted 6 1 4,
        memWrite booted 7 1 0, memWrite booted 2 1 0].map Option.isSome = List.replicate 6 false ∧
      ((3, 2, 16) ∈ [(0, 1, 8), (1, 1, 8), (2, 2, 16), (3, 2, 16), (4, 1, 1), (5, 1, 8), (6, 1, 2)] ∧ 65535 < 2 ^ 16) := by
  decide
theorem witness_TrueTickAdvancesByOne :
    (booted.lo = 255#8 → False) ∧ (field (exec .tick booted) (fun t => tickTrue t)) = some 1#16 ∧
      (field (exec .tick { booted with lo := 255, ovfPending := true }) (fun t => tickTrue t)) = some 256#16 ∧
      (field (exec .ovfIsr { booted with ovfPending := true }) (fun t => tickTrue t)) = some 256#16 := by decide
theorem witness_SnapshotOverCountsByServedOverflows :
    field (runOps (.nowRdlo :: [.tick, .ovfIsr] ++ .nowCli :: [.tick] ++ [.nowRdhi])
      { inHandler .rdlo with ie := true, hi := 0x13, lo := 0xFF }) (fun t => t.snap) = some 0x14FF ∧
    (∀ i ∈ [Instr.tick, .ovfIsr], isWindowEvent i = true) ∧ (∀ i ∈ [Instr.tick], isInput i = true) := by decide
theorem witness_BothDispatchOrdersAgree :
    ({ booted with ovfPending := true, edgePending := true }).ie = true ∧
      ({ booted with ovfPending := true, edgePending := true }).ovfPending = true ∧
      ({ booted with ovfPending := true, edgePending := true }).edgePending = true ∧ booted.ctx = .main ∧
      booted.cfg.irqPriority = .either := by decide
theorem witness_TransitionsAreCoalesced :
    booted.loopState = .idle ∧ suspended.loopState = .reporting ∧
      field (runOps ([false, true].map .pin) booted) (fun t => (t.pin, t.edgePending)) = some (true, true) := by decide
theorem witness_UndisturbedHandlerRun :
    ({ booted with edgePending := true }).ie = true ∧ ({ booted with edgePending := true }).edgePending = true ∧
      booted.ovfPending = false ∧ booted.ctx = .main := by decide
theorem witness_WidthIsTheTickDifference :
    MainReady { suspended with cs := 0x0A0F, ce := 0x10FF } ∧
      (0x0A0F#16 = 0x0A0F#16 + BitVec.ofNat 16 (256 * 0) ∧
        0x10FF#16 = 0x0A0F#16 + BitVec.ofNat 16 1520 + BitVec.ofNat 16 (256 * 1)) ∧
      (-32768 ≤ (1520 : Int) + 256 * ((1 : Int) - 0) ∧ (1520 : Int) + 256 * ((1 : Int) - 0) ≤ 32767) := by
  unfold MainReady; decide
theorem witness_BandIsTheFirstWindow :
    ((1520 : Int) - 105 < 1624 ∧ (1624 : Int) < 1520 + 105) ∧ cfgV.bands ≠ [] ∧
      (∀ x ∈ [(890 : Int), 1205, 2150], ∀ b ∈ cfgV.bands, ¬(b.center - b.lowerTol < x ∧ x < b.center + b.upperTol)) ∧
      (∀ b ∈ cfgV.bands, (890 : Int) ≤ b.center - b.lowerTol) ∧
      ¬(∀ b ∈ cfgV.bands, (2150 : Int) ≤ b.center - b.lowerTol) ∧ (∀ b ∈ cfgV.bands, b.center + b.upperTol ≤ (2150 : Int)) ∧
      ¬(∀ b ∈ cfgV.bands, (1205 : Int) ≤ b.center - b.lowerTol) ∧ ¬(∀ b ∈ cfgV.bands, b.center + b.upperTol ≤ (1205 : Int)) := by
  decide
theorem witness_DutyIsTheRoundedRatio :
    1 ≤ 3300 ∧ 1250 ≤ 3300 ∧ ¬(1 ≤ 3300 ∧ 3301 ≤ 3300) ∧
      cfgV.bands.map Band.output = [.const 0#8, .mv 1250, .const 255#8] := by decide
theorem witness_RemapCoversTheDutyRange :
    cfgC.inMin < cfgC.inMax ∧ (900 : Int) ≤ cfgC.inMin ∧ cfgC.inMax ≤ 2100 ∧ cfgC.inMin ≤ 1520 ∧ (1520 : Int) ≤ cfgC.inMax := by
  decide
theorem witness_ReceiverRecoversTheBytes :
    1 ≤ cfgV.baud ∧ true ≠ false ∧
      waveform [(true, 1), (false, 2)] = [] ++ (true, 1) :: (false, 2) :: ([] : List (Level × Rat)) :=
  ⟨by decide, by decide, rfl⟩
theorem witness_ReportSendsTheDiagnosticLine :
    let s : State := { suspended with mlPhase := .report, band := .out .below }
    (s.ctx = .main ∧ s.bootPhase = .run ∧ s.loopState = .reporting ∧ s.ie = false ∧ s.mlPhase = .report ∧
      s.txBusy = false ∧ s.reportActive = false ∧ 1 ≤ s.cfg.baud) ∧
    (MainReady suspended ∧ suspended.loopState = .reporting ∧ 1 ≤ suspended.cfg.baud) ∧
    ¬(MainReady booted ∧ booted.loopState = .reporting) ∧
    (MainReady { booted with mlPhase := .report } ∧ booted.loopState = .idle) ∧
    ({ booted with schedule := [.report] }).schedule = .report :: [] := by
  unfold MainReady; decide
theorem witness_DiagnosticLineLayout :
    (bandOrDuty cfgV (.out .below) 0).length = 1 ∧ cfgV.mapPolicy = .banded ∧ cfgC.mapPolicy = .continuous := by decide
theorem witness_DecimalReadsBack : (decimal 0).head? = some 0x30#8 ∧ (-1 : Int) < 0 ∧ 0 ≤ (0 : Int) := by decide

end Sys2Proof.Tests
end

section
/-! What one operation does, said once for all 27: when it answers, and the whole state it then leaves. -/

namespace Sys2Proof.Machine

/-- The Band value and the duty ML.CLASSIFY leaves; those it found where the classifier has no answer (R167). -/
def classified (s : State) : BandValue × Byte :=
  (classify s.cfg (signed16 s.w) s.dnew).getD (s.band, s.dnew)

/-- The state an enabled operation leaves (R100, the rules of each row). Each arm is an update, so that a field it does not
name is left as it was by `rfl`. -/
def effect (i : Instr) (s : State) : State :=
  match i with
  | .reset => powerOn s
  | .tick => { s with lo := s.lo + 1#8, ovfPending := overflowLatch s.lo s.ovfPending, ticks := s.ticks + 1 }
  | .ovfIsr => overflowHandler s
  | .nowSei => { s with ie := true, ecPhase := .rdlo }
  | .nowRdlo => { s with loSnap := s.lo, ecPhase := .cli }
  | .nowCli => { s with ie := false, ecPhase := .rdhi }
  | .nowRdhi => { s with hiSnap := s.hi, snap := composeTick s.hi s.loSnap, ecPhase := .rdpin }
  | .pin v => { s with pin := v, edgePending := edgeLatch s.pin v s.loopState s.edgePending }
  | .ecEnter => enterEdgeHandler s
  | .ecRdpin => { s with lvl := s.pin, ecPhase := .store }
  | .ecStore =>
    { s with
      tStart := if s.lvl then s.tStart else s.snap
      tEnd := if s.lvl then s.snap else s.tEnd
      ready := readyFromLevel s.lvl
      ecPhase := .ret }
  | .ecRet => returnFromEdgeHandler s
  | .mlClaim => { s with cs := s.tStart, ce := s.tEnd, tStart := 0#16, tEnd := 0#16, mlPhase := .width }
  | .mlWidth => { s with w := s.ce - s.cs, mlPhase := .classify }
  | .mlClassify => { s with band := (classified s).1, dnew := (classified s).2, mlPhase := .pwmwr }
  | .mlPwmwr =>
    { s with
      duty := (dutyToWrite s).getD s.duty
      pwmLog := s.pwmLog ++ (dutyToWrite s).toList
      mlPhase := .report }
  | .txStart d => sendLevel false { s with txSr := d, txIdx := 0, txBusy := true }
  | .txData => { sendLevel (dataLevel s.txSr s.txIdx.val) s with txIdx := s.txIdx + 1 }
  | .txStop => { sendLevel true s with txBusy := false, txIdx := 0 }
  | .mlPoll => { s with r := s.ready, mlPhase := if s.ready then .suspend else .poll }
  | .mlSuspend => { s with ie := false, loopState := .reporting, mlPhase := .claim }
  | .mlClrrdy => { s with ready := false, mlPhase := .resume }
  | .mlResume => { s with loopState := .idle, ie := true, mlPhase := .poll }
  | .csEnter => { s with ie := false }
  | .csLeave => { s with ie := true }
  | .bootMode m => { s with mode := m, bootPhase := .start }
  | .bootStart => { s with ie := true, bootPhase := .run, mlPhase := .poll }

/-- ML.CLASSIFY is enabled exactly when the classifier has an answer, which it then stores (R167). -/
theorem execMlClassify_next_iff_effect (s t : State) :
    execMlClassify s = .next t ↔ Enabled s .mlClassify ∧ t = effect .mlClassify s := by
  simp only [execMlClassify_next, Enabled, effect, classified, and_assoc,
    ← classify_isSome s.cfg (signed16 s.w) s.dnew]
  cases classify s.cfg (signed16 s.w) s.dnew with
  | none => simp
  | some p => simp [Prod.ext_iff]

/-- What ML.PWMWR leaves, whether it writes or not (R168). -/
theorem writeDuty_eq (s : State) (o : Option Byte) :
    writeDuty s o = { s with duty := o.getD s.duty, pwmLog := s.pwmLog ++ o.toList, mlPhase := .report } := by
  cases o <;> simp [writeDuty]

/-- An operation answers a next state exactly when it is enabled, and then the state `effect` gives. -/
theorem exec_eq_next_iff (i : Instr) (s t : State) :
    exec i s = .next t ↔ Enabled s i ∧ t = effect i s := by
  cases i with
  | reset => exact (execReset_next s t).trans (iff_of_eq (true_and _)).symm
  | tick => exact (execTick_next s t).trans (iff_of_eq (true_and _)).symm
  | pin v => exact (execPin_next v s t).trans (iff_of_eq (true_and _)).symm
  | ovfIsr => exact execOvfIsr_next s t
  | nowSei => exact execNowSei_next s t
  | nowRdlo => exact execNowRdlo_next s t
  | nowCli => exact execNowCli_next s t
  | nowRdhi => exact execNowRdhi_next s t
  | ecEnter => exact execEcEnter_next s t
  | ecRdpin => exact execEcRdpin_next s t
  | ecStore => exact execEcStore_next s t
  | ecRet => exact execEcRet_next s t
  | mlClaim => exact execMlClaim_next s t
  | mlWidth => exact execMlWidth_next s t
  | mlClassify => exact execMlClassify_next_iff_effect s t
  | mlPwmwr => exact (execMlPwmwr_next s t).trans (by rw [writeDuty_eq]; rfl)
  | txStart d => exact execTxStart_next d s t
  | txData => exact execTxData_next s t
  | txStop => exact execTxStop_next s t
  | mlPoll => exact execMlPoll_next s t
  | mlSuspend => exact execMlSuspend_next s t
  | mlClrrdy => exact execMlClrrdy_next s t
  | mlResume => exact execMlResume_next s t
  | csEnter => exact execCsEnter_next s t
  | csLeave => exact execCsLeave_next s t
  | bootMode m => exact execBootMode_next m s t
  | bootStart => exact execBootStart_next s t

/-- A presented operation answers exactly when it is enabled: its effect, then ML.REPORT's own writes. -/
theorem runOp_eq_next_iff (i : Instr) (s t : State) :
    runOp i s = .next t ↔ Enabled s i ∧ t = reportProgress i (effect i s) := by
  simp only [runOp_eq_next, exec_eq_next_iff, and_assoc, exists_and_left, exists_eq_left]

/-- Settles O43: every arm of `effect` updates other fields, and RESET copies these two. -/
theorem configurationAndScheduleAreNotWritten : Obligations.ConfigurationAndScheduleAreNotWritten := by
  intro i s t h
  obtain ⟨-, rfl⟩ := (exec_eq_next_iff i s t).1 h
  cases i <;> exact ⟨rfl, rfl⟩

end Sys2Proof.Machine
end

section
/-! The owners of the shared cells (R43): per cell, which operation can change it and to what. -/

namespace Sys2Proof.Machine

variable {i : Instr} {s : State}

theorem owner_lo (hi : i ≠ .reset) (h : (effect i s).lo ≠ s.lo) : i = .tick := by
  cases i with
  | reset => exact absurd rfl hi
  | tick => rfl
  | _ => exact absurd rfl h

theorem owner_hi (hi : i ≠ .reset) (h : (effect i s).hi ≠ s.hi) : i = .ovfIsr := by
  cases i with
  | reset => exact absurd rfl hi
  | ovfIsr => rfl
  | _ => exact absurd rfl h

/-- `t_start` is filed on a falling edge and cleared by ML.CLAIM (R134, R151). -/
theorem owner_tStart (hi : i ≠ .reset) (h : (effect i s).tStart ≠ s.tStart) :
    i = .ecStore ∧ s.lvl = false ∨ i = .mlClaim ∧ (effect i s).tStart = 0#16 := by
  cases i with
  | reset => exact absurd rfl hi
  | ecStore => exact .inl ⟨rfl, Bool.eq_false_iff.2 fun hl => h (if_pos hl)⟩
  | mlClaim => exact .inr ⟨rfl, rfl⟩
  | _ => exact absurd rfl h

/-- `t_end` is filed on a rising edge and cleared by ML.CLAIM (R134, R151). -/
theorem owner_tEnd (hi : i ≠ .reset) (h : (effect i s).tEnd ≠ s.tEnd) :
    i = .ecStore ∧ s.lvl = true ∨ i = .mlClaim ∧ (effect i s).tEnd = 0#16 := by
  cases i with
  | reset => exact absurd rfl hi
  | ecStore => exact .inl ⟨rfl, Decidable.byContradiction fun hl => h (if_neg hl)⟩
  | mlClaim => exact .inr ⟨rfl, rfl⟩
  | _ => exact absurd rfl h

theorem owner_ready (hi : i ≠ .reset) (h : (effect i s).ready ≠ s.ready) :
    i = .ecStore ∨ i = .mlClrrdy ∧ (effect i s).ready = false := by
  cases i with
  | reset => exact absurd rfl hi
  | ecStore => exact .inl rfl
  | mlClrrdy => exact .inr ⟨rfl, rfl⟩
  | _ => exact absurd rfl h

/-- The nine operations that switch delivery (R33, R43). -/
theorem owner_ie (hi : i ≠ .reset) (h : (effect i s).ie ≠ s.ie) :
    i = .ecEnter ∨ i = .nowSei ∨ i = .nowCli ∨ i = .ecRet ∨ i = .csEnter ∨ i = .csLeave ∨ i = .mlSuspend ∨
      i = .mlResume ∨ i = .bootStart := by
  cases i with
  | reset => exact absurd rfl hi
  | ecEnter | nowSei | nowCli | ecRet | csEnter | csLeave | mlSuspend | mlResume | bootStart => simp
  | _ => exact absurd rfl h

/-- A pin write that changes the edge latch sets it (R131). -/
theorem edgeLatch_of_ne {old v : Level} {l : LoopState} {p : Level} (h : edgeLatch old v l p ≠ p) :
    edgeLatch old v l p = true := by
  unfold edgeLatch at h ⊢
  split at h
  · next hc => exact if_pos hc
  · exact absurd rfl h

/-- A tick that changes the overflow latch sets it (R111). -/
theorem overflowLatch_of_ne {lo : Byte} {p : Level} (h : overflowLatch lo p ≠ p) : overflowLatch lo p = true := by
  unfold overflowLatch at h ⊢
  split at h
  · next hc => exact if_pos hc
  · exact absurd rfl h

theorem owner_edgePending (hi : i ≠ .reset) (h : (effect i s).edgePending ≠ s.edgePending) :
    (∃ v, i = .pin v ∧ (effect i s).edgePending = true) ∨ i = .ecEnter ∧ (effect i s).edgePending = false := by
  cases i with
  | reset => exact absurd rfl hi
  | pin v => exact .inl ⟨v, rfl, edgeLatch_of_ne h⟩
  | ecEnter => exact .inr ⟨rfl, rfl⟩
  | _ => exact absurd rfl h

theorem owner_ovfPending (hi : i ≠ .reset) (h : (effect i s).ovfPending ≠ s.ovfPending) :
    i = .tick ∧ (effect i s).ovfPending = true ∨ i = .ovfIsr ∧ (effect i s).ovfPending = false := by
  cases i with
  | reset => exact absurd rfl hi
  | tick => exact .inl ⟨rfl, overflowLatch_of_ne h⟩
  | ovfIsr => exact .inr ⟨rfl, rfl⟩
  | _ => exact absurd rfl h

end Sys2Proof.Machine

namespace Sys2Proof.Machine

/-- Settles O41, cell by cell. -/
theorem sharedCellsHaveOneOwner : Obligations.SharedCellsHaveOneOwner := by
  intro i s t h hi
  obtain ⟨-, rfl⟩ := (exec_eq_next_iff i s t).1 h
  exact ⟨owner_lo hi, owner_hi hi, owner_tStart hi, owner_tEnd hi, owner_ready hi, owner_ie hi,
    owner_edgePending hi, owner_ovfPending hi⟩

end Sys2Proof.Machine
end

section
/-! The invariants of R45 along a step. -/

namespace Sys2Proof.Machine

/-- The fields the invariants of R45 speak of. -/
def controlFields (s : State) : Ctx × Level × EcPhase × LoopState × Level × Level × Level × BootPhase × Level :=
  (s.ctx, s.ie, s.ecPhase, s.loopState, s.edgePending, s.txBusy, s.txd, s.bootPhase, s.ready)

/-- The invariants of R45 pass to every state with the same control fields. -/
theorem StateInv.of_controlFields {s t : State} (hs : StateInv s) (h : controlFields t = controlFields s) :
    StateInv t := by
  simp only [controlFields, Prod.mk.injEq] at h
  obtain ⟨hctx, hie, hec, hloop, hedge, hbusy, htxd, hboot, hready⟩ := h
  constructor
  · rw [hctx, hie, hec]; exact hs.window
  · rw [hloop, hie, hctx, hedge]; exact hs.suspension
  · rw [hbusy, htxd]; exact hs.idleHigh
  · rw [hctx, hloop]; exact hs.handlerInIdle
  · rw [hboot, hie, hctx, hloop, hbusy, hready]; exact hs.notBooted

/-- ML.REPORT's own writes touch no control field (R203). -/
theorem controlFields_reportProgress (i : Instr) (t : State) :
    controlFields (reportProgress i t) = controlFields t := by
  rw [reportProgress_writes]
  rfl

/-- With delivery on the loop does not report, so an edge may be served (R45 (b)). -/
theorem StateInv.idle_of_ie {s : State} (hs : StateInv s) (h : s.ie = true) : s.loopState = .idle := by
  cases hl : s.loopState with
  | idle => rfl
  | reporting => simp [(hs.suspension hl).1] at h

/-- The handler runs only once the block has booted (R45 (f)). -/
theorem StateInv.run_of_edge {s : State} (hs : StateInv s) (h : s.ctx = .edge) : s.bootPhase = .run := by
  by_contra hb
  simp [(hs.notBooted hb).2.1] at h

/-- Delivery is on only once the block has booted (R45 (f)). -/
theorem StateInv.run_of_ie {s : State} (hs : StateInv s) (h : s.ie = true) : s.bootPhase = .run := by
  by_contra hb
  simp [(hs.notBooted hb).1] at h

/-- With delivery on in the main context and no dispatch enabled no edge is latched (R227). -/
theorem edgePending_of_no_dispatch {s : State} (hie : s.ie = true) (hctx : s.ctx = .main)
    (hd : dispatchEnabled s = false) : s.edgePending = false := by
  by_contra he
  have hon : dispatchEnabled s = true :=
    (dispatchEnabled_iff s).2 ⟨hie, .inr ⟨by simpa using he, hctx⟩⟩
  simp [hd] at hon

/-- In IDLE of a booted block the invariants ask that delivery be on exactly in the window and that the line idle high. -/
theorem stateInv_of_window {s : State}
    (hwindow : s.ie = true ↔ s.ecPhase = .rdlo ∨ s.ecPhase = .cli) (hidle : s.loopState = .idle)
    (hrun : s.bootPhase = .run) (hhigh : s.txBusy = false → s.txd = true) : StateInv s where
  window _ := hwindow
  suspension hl := by simp [hidle] at hl
  idleHigh := hhigh
  handlerInIdle _ := hidle
  notBooted hb := absurd hrun hb

/-- In the main context of a booted block they speak of suspension and of the line only. -/
theorem stateInv_of_main {s : State} (hctx : s.ctx = .main) (hrun : s.bootPhase = .run)
    (hsuspension : s.loopState = .reporting → s.ie = false ∧ s.edgePending = false)
    (hhigh : s.txBusy = false → s.txd = true) : StateInv s where
  window hedge := by simp [hctx] at hedge
  suspension hl := ⟨(hsuspension hl).1, hctx, (hsuspension hl).2⟩
  idleHigh := hhigh
  handlerInIdle hedge := by simp [hctx] at hedge
  notBooted hb := absurd hrun hb

/-- In IDLE of a booted main context only the line is left to speak of. -/
theorem stateInv_of_idle {s : State} (hctx : s.ctx = .main) (hrun : s.bootPhase = .run) (hidle : s.loopState = .idle)
    (hhigh : s.txBusy = false → s.txd = true) : StateInv s :=
  stateInv_of_main hctx hrun (by simp [hidle]) hhigh

/-- Suspension holds delivery and the edge latch (R45 (b)). -/
theorem StateInv.held_of_reporting {s : State} (hs : StateInv s) (hl : s.loopState = .reporting) :
    s.ie = false ∧ s.edgePending = false := by
  obtain ⟨hie, -, hedge⟩ := hs.suspension hl
  exact ⟨hie, hedge⟩

/-- In the handler outside the window delivery is off (R45 (a)). -/
theorem StateInv.ie_false_of_phase {s : State} (hs : StateInv s) (hctx : s.ctx = .edge)
    (h : ¬(s.ecPhase = .rdlo ∨ s.ecPhase = .cli)) : s.ie = false :=
  Bool.eq_false_iff.2 fun hie => h ((hs.window hctx).1 hie)

/-- In REPORTING no edge is latched (R131). -/
theorem edgeLatch_reporting (old v p : Level) : edgeLatch old v .reporting p = p := by
  simp [edgeLatch]

/-- RESET reaches a state with the invariants from any state (R45, R250). -/
theorem stateInv_powerOn (s : State) : StateInv (powerOn s) := by
  constructor <;> simp

/-- Every enabled operation keeps the invariants of R45. -/
theorem stateInv_effect {i : Instr} {s : State} (hs : StateInv s) (he : Enabled s i) : StateInv (effect i s) := by
  cases i with
  | reset => exact stateInv_powerOn s
  | tick | ovfIsr | mlClaim | mlWidth | mlClassify | mlPwmwr | mlPoll => exact hs.of_controlFields rfl
  | pin v =>
    refine { hs with suspension := fun hl => ?_ }
    have hl : s.loopState = .reporting := hl
    simpa [effect, hl, edgeLatch_reporting] using hs.suspension hl
  | ecEnter =>
    obtain ⟨hie, -, -, -⟩ := he
    exact stateInv_of_window (by simp [effect]) (hs.idle_of_ie hie) (hs.run_of_ie hie) hs.idleHigh
  | nowSei | nowCli =>
    obtain ⟨hctx, -, -⟩ := he
    exact stateInv_of_window (by simp [effect]) (hs.handlerInIdle hctx) (hs.run_of_edge hctx) hs.idleHigh
  | nowRdlo =>
    obtain ⟨hctx, hphase, -⟩ := he
    have hie : s.ie = true := (hs.window hctx).2 (.inl hphase)
    exact stateInv_of_window (by simp [effect, hie]) (hs.handlerInIdle hctx) (hs.run_of_edge hctx) hs.idleHigh
  | nowRdhi | ecRdpin | ecStore =>
    obtain ⟨hctx, hphase, -⟩ := he
    have hie := hs.ie_false_of_phase hctx (by simp [hphase])
    exact stateInv_of_window (by simp [effect, hie]) (hs.handlerInIdle hctx) (hs.run_of_edge hctx) hs.idleHigh
  | ecRet =>
    obtain ⟨hctx, -, -⟩ := he
    exact stateInv_of_idle rfl (hs.run_of_edge hctx) (hs.handlerInIdle hctx) hs.idleHigh
  | txStart d =>
    obtain ⟨⟨hctx, -, hrun, -⟩, -, -⟩ := he
    exact stateInv_of_main hctx hrun hs.held_of_reporting (by simp [effect])
  | txData =>
    obtain ⟨⟨hctx, -, hrun, hbusy, -⟩, -⟩ := he
    exact stateInv_of_main hctx hrun hs.held_of_reporting (by simp [effect, hbusy])
  | txStop =>
    obtain ⟨⟨hctx, -, hrun, -, -⟩, -⟩ := he
    exact stateInv_of_main hctx hrun hs.held_of_reporting (by simp [effect])
  | mlSuspend =>
    obtain ⟨⟨hctx, hquiet, hrun, -⟩, -, hie, -⟩ := he
    have hedge : s.edgePending = false := edgePending_of_no_dispatch hie hctx hquiet
    exact stateInv_of_main hctx hrun (fun _ => ⟨rfl, hedge⟩) hs.idleHigh
  | mlClrrdy =>
    obtain ⟨⟨hctx, -, hrun, -⟩, -⟩ := he
    exact stateInv_of_main hctx hrun hs.held_of_reporting hs.idleHigh
  | mlResume =>
    obtain ⟨⟨hctx, -, hrun, -⟩, -⟩ := he
    exact stateInv_of_idle hctx hrun rfl hs.idleHigh
  | csEnter | csLeave =>
    obtain ⟨⟨hctx, -, hrun, -⟩, hidle, -⟩ := he
    exact stateInv_of_idle hctx hrun hidle hs.idleHigh
  | bootMode m =>
    obtain ⟨hboot, -, -, -⟩ := he
    exact { hs with notBooted := fun _ => hs.notBooted (by simp [hboot]) }
  | bootStart =>
    obtain ⟨hboot, hctx, -, -⟩ := he
    obtain ⟨-, -, hidle, -, -⟩ := hs.notBooted (by simp [hboot])
    exact stateInv_of_idle hctx rfl hidle hs.idleHigh

/-- An operation as a step takes it keeps the invariants of R45. -/
theorem stateInv_runOp {i : Instr} {s t : State} (hs : StateInv s) (h : runOp i s = .next t) : StateInv t := by
  obtain ⟨he, rfl⟩ := (runOp_eq_next_iff i s t).1 h
  exact (stateInv_effect hs he).of_controlFields (controlFields_reportProgress i _)

/-- ML.REPORT's first element keeps the invariants of R45. -/
theorem stateInv_mlReport {s t : State} (hs : StateInv s) (h : mlReport s = .next t) : StateInv t := by
  obtain ⟨-, rfl⟩ := (mlReport_next s t).1 h
  exact hs.of_controlFields rfl

end Sys2Proof.Machine
end

section
/-! What a step can do: ML.REPORT's first element or one operation, and where that operation can be RESET. -/

namespace Sys2Proof.Machine

/-- `s` with other turns still to come and another count of free values drawn: all that a step changes beside the operation
it takes. -/
def withTurns (s : State) (turns : List Turn) (draws : Nat) : State := { s with schedule := turns, draws := draws }

theorem formatE_eq_some {i j : Instr} {arg : Byte} : formatE i arg = some j ↔ arg = 0#8 ∧ i = j := by
  simp [formatE]

theorem formatB_eq_some {f : Byte → Instr} {arg : Byte} {j : Instr} : formatB f arg = some j ↔ f arg = j := by
  simp [formatB]

theorem formatL_eq_some {f : Level → Instr} {arg : Byte} {j : Instr} :
    formatL f arg = some j ↔ arg.extractLsb' 1 7 = 0#7 ∧ f (arg.getLsbD 0) = j := by
  simp [formatL]

theorem formatM_eq_some {f : BitVec 2 → Instr} {arg : Byte} {j : Instr} :
    formatM f arg = some j ↔ arg.extractLsb' 2 6 = 0#6 ∧ f (arg.extractLsb' 0 2) = j := by
  simp [formatM]

/-- One row of the table of R100: what holds of its reader and of the readers of the later rows holds of every reader. -/
theorem forall_reader_ite {P : (Byte → Option Instr) → Prop} {c : Prop} {_ : Decidable c} {f : Byte → Option Instr}
    {rest : Option (Byte → Option Instr)} (hrow : c → P f) (hrest : ∀ read, rest = some read → P read) :
    ∀ read, (if c then some f else rest) = some read → P read := by
  intro read h
  split at h
  · next hc => exact Option.some.inj h ▸ hrow hc
  · exact hrest read h

/-- Only operation byte 0 is read as RESET, with operand byte 0 (R100). -/
theorem operandReader_reset (op arg : Byte) :
    ∀ read, operandReader op = some read → read arg = some .reset → op = 0#8 ∧ arg = 0#8 := by
  unfold operandReader
  refine forall_reader_ite ?_ ?_
  · exact fun hop h => ⟨hop, (formatE_eq_some.1 h).1⟩
  iterate 26
    refine forall_reader_ite ?_ ?_
    · simp [formatE_eq_some, formatB_eq_some, formatL_eq_some, formatM_eq_some]
  exact fun _ h => nomatch h

/-- The word of RESET is 0 (R100). -/
theorem eq_zero_of_decode_reset {w : CommandWord} (h : decode w = .ok .reset) : w = 0x0000#16 := by
  unfold decode at h
  split at h
  · cases h
  · next read hread =>
    split at h
    · cases h
    · next i hi =>
      cases h
      obtain ⟨hop, harg⟩ := operandReader_reset _ _ read hread hi
      have hhigh : w.toNat / 256 % 256 = 0 := by
        simpa [opField, BitVec.extractLsb'_toNat, Nat.shiftRight_eq_div_pow] using congrArg BitVec.toNat hop
      have hlow : w.toNat % 256 = 0 := by
        simpa [argField, BitVec.extractLsb'_toNat] using congrArg BitVec.toNat harg
      bv_omega

/-- The dispatcher takes OVF.ISR or EC.ENTER (R227, R230). -/
theorem dispatchOp_eq (s : State) : dispatchOp s = .ovfIsr ∨ dispatchOp s = .ecEnter := by
  unfold dispatchOp
  split
  · split
    · exact .inl rfl
    · exact .inr rfl
    · split
      · exact .inl rfl
      · exact .inr rfl
  · split
    · exact .inl rfl
    · exact .inr rfl

/-- The loop's own operation is one of the processor's (R208). -/
theorem loopOp_agent {s : State} {i : Instr} (h : loopOp s = .ok i) : i.agent = .cpu := by
  unfold loopOp at h
  cases hphase : s.mlPhase with
  | report =>
    simp only [hphase] at h
    split at h
    · cases h; rfl
    · cases h
  | _ =>
    simp only [hphase] at h
    cases h; rfl

/-- The micro-step of a phase is one of the processor's (R228). -/
theorem microStep_agent (p : EcPhase) : (microStep p).agent = .cpu := by
  cases p <;> rfl

/-- A canonical turn is taken by the dispatcher or the processor (R208, R227). -/
theorem canonicalOp_agent {s : State} {i : Instr} (h : canonicalOp s = .ok i) : i.agent = .irq ∨ i.agent = .cpu := by
  unfold canonicalOp at h
  split at h
  · cases h
    rcases dispatchOp_eq s with hd | hd <;> exact .inl (hd ▸ rfl)
  · right
    split at h
    · cases h; exact microStep_agent _
    · cases h; rfl
    · cases h; rfl
    · split at h
      · cases h; split <;> rfl
      · exact loopOp_agent h

/-- What one turn can do: ML.REPORT's first element or one operation, perhaps with one free value drawn; RESET only as the
presented word 0. -/
theorem takeTurn_cases {turn : Turn} {s t : State} (h : takeTurn turn s = .next t) :
    mlReport s = .next t ∨
      ∃ i draws, runOp i { s with draws := draws } = .next t ∧ (i = .reset → turn = .word 0x0000#16) := by
  cases turn with
  | report => exact .inl h
  | word w =>
    simp only [takeTurn, presentWord] at h
    split at h
    · next i hi => exact .inr ⟨i, s.draws, h, fun hr => congrArg _ (eq_zero_of_decode_reset (hr ▸ hi))⟩
    · cases h
  | canonical =>
    simp only [takeTurn, canonicalTurn] at h
    split at h
    · next i hi =>
      have hreset : i ≠ .reset := by
        rintro rfl
        simpa [Instr.agent] using canonicalOp_agent hi
      split at h
      · exact .inr ⟨i, _, h, fun hr => absurd hr hreset⟩
      · exact .inr ⟨i, s.draws, h, fun hr => absurd hr hreset⟩
    · cases h

/-- The turn of the step is RESET's word, placed or, with no turn placed, freely chosen. -/
def ResetTurn (s : State) : Prop :=
  (∃ rest, s.schedule = .word 0x0000#16 :: rest) ∨
    s.schedule = [] ∧ Config.freeTurn s.draws = .word 0x0000#16

/-- What one step can do: with a turn used up and perhaps free values drawn, ML.REPORT's first element or one operation;
RESET only where the turn is its word. -/
theorem step_cases {s t : State} (h : step s = .next t) :
    ∃ turns draws, mlReport (withTurns s turns draws) = .next t ∨
      ∃ i, runOp i (withTurns s turns draws) = .next t ∧ (i = .reset → ResetTurn s) := by
  unfold step at h
  split at h
  · next hempty =>
    rcases freeStep_cases s with ⟨u, hu, hfree⟩ | ⟨-, hfree⟩
    · obtain rfl : u = t := by simpa [hfree] using h
      rcases takeTurn_cases hu with hreport | ⟨i, draws, hi, hreset⟩
      · exact ⟨s.schedule, s.draws + 1, .inl hreport⟩
      · exact ⟨s.schedule, draws, .inr ⟨i, hi, fun hr => .inr ⟨hempty, hreset hr⟩⟩⟩
    · exact ⟨s.schedule, s.draws + 1, .inr ⟨.tick, hfree ▸ h, fun hr => nomatch hr⟩⟩
  · next turn rest hplaced =>
    rcases takeTurn_cases h with hreport | ⟨i, draws, hi, hreset⟩
    · exact ⟨rest, s.draws, .inl hreport⟩
    · exact ⟨rest, draws, .inr ⟨i, hi, fun hr => .inl ⟨rest, hreset hr ▸ hplaced⟩⟩⟩

/-- Settles O32: the operation a step takes keeps the invariants, and the turns are no part of them. -/
theorem stepKeepsReachableInvariants : Obligations.StepKeepsReachableInvariants := by
  intro s t hs h
  obtain ⟨turns, draws, hstep⟩ := step_cases h
  have hs' : StateInv (withTurns s turns draws) := hs.of_controlFields rfl
  rcases hstep with hreport | ⟨i, hi, -⟩
  · exact stateInv_mlReport hs' hreport
  · exact stateInv_runOp hs' hi

end Sys2Proof.Machine
end

section
/-! The Operating Mode and the boot order (R36, R46). -/

namespace Sys2Proof.Machine

/-- Past SAMPLE no enabled operation but RESET writes `mode` or goes back to SAMPLE: the only other writer of `mode` is
BOOT.MODE, which needs SAMPLE (R251). -/
theorem effect_mode_of_booted {i : Instr} {s : State} (hboot : s.bootPhase ≠ .sample) (he : Enabled s i)
    (hi : i ≠ .reset) : (effect i s).mode = s.mode ∧ (effect i s).bootPhase ≠ .sample := by
  cases i with
  | reset => exact absurd rfl hi
  | bootMode m =>
    obtain ⟨hsample, -, -, -⟩ := he
    exact absurd hsample hboot
  | bootStart => exact ⟨rfl, nofun⟩
  | _ => exact ⟨rfl, hboot⟩

theorem reportProgress_mode (i : Instr) (t : State) : (reportProgress i t).mode = t.mode := by
  rw [reportProgress_writes]

theorem reportProgress_bootPhase (i : Instr) (t : State) : (reportProgress i t).bootPhase = t.bootPhase := by
  rw [reportProgress_writes]

/-- Settles O40: ML.REPORT writes neither cell, and no operation but RESET does past SAMPLE. -/
theorem modeIsImmutableAfterBoot : Obligations.ModeIsImmutableAfterBoot := by
  intro s t h hboot
  obtain ⟨turns, draws, hreport | ⟨i, hi, hreset⟩⟩ := step_cases h
  · obtain ⟨-, rfl⟩ := (mlReport_next _ t).1 hreport
    exact .inl ⟨rfl, hboot⟩
  · obtain ⟨he, rfl⟩ := (runOp_eq_next_iff i _ t).1 hi
    rw [reportProgress_mode, reportProgress_bootPhase]
    by_cases hr : i = .reset
    · exact .inr ⟨hr ▸ rfl, hreset hr⟩
    · exact .inl (effect_mode_of_booted (s := withTurns s turns draws) hboot he hr)

end Sys2Proof.Machine
end

section
/-! The ghost counter and the observation traces are written and never read (R40). -/

namespace Sys2Proof.Machine

/-- Two answers that differ at most in the ghost counter and the traces of the next state. -/
def AgreeButGhost : Answer → Answer → Prop
  | .next t, .next t' => SameButGhost t t'
  | .refused r, .refused r' => r = r'
  | _, _ => False

/-- The same guards before answers that agree give answers that agree. -/
theorem agreeButGhost_guarded (cs : List Check) {a a' : Answer} (h : AgreeButGhost a a') :
    AgreeButGhost (guarded cs a) (guarded cs a') := by
  induction cs with
  | nil => exact h
  | cons c cs ih =>
    obtain ⟨blocks, reason⟩ := c
    cases blocks
    · exact ih
    · exact rfl

/-- `agreeButGhost_guarded` for an operation that answers one state: the form most meanings have. -/
theorem agreeButGhost_guarded_next (cs : List Check) {t t' : State} (h : SameButGhost t t') :
    AgreeButGhost (guarded cs (.next t)) (guarded cs (.next t')) :=
  agreeButGhost_guarded cs h

/-- A state that differs from `s` at most in the ghost counter and the traces is `s` with those three replaced. -/
theorem sameButGhost_iff {s t : State} :
    SameButGhost s t ↔ ∃ n wave log, t = { s with ticks := n, wave := wave, pwmLog := log } := by
  constructor
  · intro h
    exact ⟨_, _, _, h.symm⟩
  · rintro ⟨n, wave, log, rfl⟩
    rfl

/-- Every operation answers alike in states that differ at most in the ghost counter and the traces. -/
theorem agreeButGhost_exec (i : Instr) {s s' : State} (h : SameButGhost s s') :
    AgreeButGhost (exec i s) (exec i s') := by
  obtain ⟨n, wave, log, rfl⟩ := sameButGhost_iff.1 h
  cases i with
  | reset | tick | pin v => exact agreeButGhost_guarded_next [] rfl
  | mlClassify =>
    refine agreeButGhost_guarded (mainIdleChecks s) ?_
    dsimp only
    cases classify s.cfg (signed16 s.w) s.dnew with
    | none => exact rfl
    | some _ => exact agreeButGhost_guarded_next [] rfl
  | mlPwmwr =>
    simp only [exec, execMlPwmwr, writeDuty_eq]
    exact agreeButGhost_guarded_next _ rfl
  | _ => exact agreeButGhost_guarded_next _ rfl

/-- What agrees with a next state is a next state. -/
theorem AgreeButGhost.of_next {t : State} {a : Answer} (h : AgreeButGhost (.next t) a) :
    ∃ t', a = .next t' ∧ SameButGhost t t' := by
  cases a with
  | next t' => exact ⟨t', rfl, h⟩
  | fault f => cases f
  | refused r => exact h.elim

/-- What agrees with a refusal is that refusal. -/
theorem AgreeButGhost.of_refused {r : Refusal} {a : Answer} (h : AgreeButGhost (.refused r) a) : a = .refused r := by
  cases a with
  | next t => exact h.elim
  | fault f => cases f
  | refused r' => exact congrArg _ (Eq.symm h)

/-- Settles O42: the two answers agree, whichever they are. -/
theorem ghostAndTracesAreNeverRead : Obligations.GhostAndTracesAreNeverRead := by
  intro i s s' h
  have hagree := agreeButGhost_exec i h
  exact ⟨fun t ht => (ht ▸ hagree).of_next, fun r hr => (hr ▸ hagree).of_refused⟩

end Sys2Proof.Machine
end

section
/-! The state right after reset (R44). -/

namespace Sys2Proof.Machine

theorem stateInv_reset : StateInv State.reset := by
  constructor <;> decide

theorem loopInv_reset : LoopInv State.reset := by
  constructor <;> decide

/-- Settles O31. -/
theorem resetStateIsGood : Obligations.ResetStateIsGood := ⟨stateInv_reset, loopInv_reset⟩

end Sys2Proof.Machine
end

section
/-! Suspension (R72 (c), R202): what REPORTING refuses and what still runs. -/

namespace Sys2Proof.Machine

/-- An operation that is not enabled is refused: it answers no next state, and no step faults (R220, R222). -/
theorem exec_refused_of_not_enabled {i : Instr} {s : State} (h : ¬Enabled s i) : ∃ r, exec i s = .refused r := by
  rcases answer_cases (exec i s) with ⟨t, ht⟩ | hr
  · exact absurd ((exec_eq_next_iff i s t).1 ht).1 h
  · exact hr

/-- An enabled operation answers the state `effect` gives. -/
theorem exec_of_enabled {i : Instr} {s : State} (h : Enabled s i) : exec i s = .next (effect i s) :=
  (exec_eq_next_iff i s _).2 ⟨h, rfl⟩

/-- A micro-step is enabled exactly when its phase is next and no dispatch is enabled (R228). -/
theorem enabled_microStep (p : EcPhase) (s : State) : Enabled s (microStep p) ↔ MicroReady p s := by
  cases p <;> exact Iff.rfl

/-- A dispatch needs delivery to be on (R112, R132). -/
theorem ie_of_enabled_irq {i : Instr} {s : State} (hi : i.agent = .irq) (he : Enabled s i) : s.ie = true := by
  cases i with
  | ovfIsr | ecEnter =>
    obtain ⟨hie, -⟩ := he
    exact hie
  | _ => exact nomatch hi

/-- The operations of the two handlers (R112, R132 to R135) are the dispatches and the micro-steps. -/
theorem irq_or_microStep_of_mem_handlers {i : Instr}
    (hi : i ∈ ([.ovfIsr, .ecEnter, .nowSei, .nowRdlo, .nowCli, .nowRdhi, .ecRdpin, .ecStore, .ecRet] : List Instr)) :
    i.agent = .irq ∨ ∃ p, i = microStep p := by
  simp only [List.mem_cons, List.not_mem_nil, or_false] at hi
  rcases hi with rfl | rfl | rfl | rfl | rfl | rfl | rfl | rfl | rfl
  · exact .inl rfl
  · exact .inl rfl
  · exact .inr ⟨.sei, rfl⟩
  · exact .inr ⟨.rdlo, rfl⟩
  · exact .inr ⟨.cli, rfl⟩
  · exact .inr ⟨.rdhi, rfl⟩
  · exact .inr ⟨.rdpin, rfl⟩
  · exact .inr ⟨.store, rfl⟩
  · exact .inr ⟨.ret, rfl⟩

/-- Settles O39: suspension has delivery off, which stops the dispatches, and the main context, which stops the
micro-steps. -/
theorem suspensionHoldsBothHandlers : Obligations.SuspensionHoldsBothHandlers := by
  intro s hs hl
  obtain ⟨hie, hctx, hedge⟩ := hs.suspension hl
  refine ⟨fun i hi => exec_refused_of_not_enabled fun he => ?_,
    ⟨_, exec_of_enabled (i := .tick) trivial, hl, hie⟩,
    fun v => ⟨_, exec_of_enabled (i := .pin v) trivial, rfl, ?_, hl⟩⟩
  · rcases irq_or_microStep_of_mem_handlers hi with hirq | ⟨p, rfl⟩
    · simp [ie_of_enabled_irq hirq he] at hie
    · obtain ⟨hinHandler, -, -⟩ := (enabled_microStep p s).1 he
      simp [hctx] at hinHandler
  · calc edgeLatch s.pin v s.loopState s.edgePending
      _ = edgeLatch s.pin v .reporting s.edgePending := by rw [hl]
      _ = s.edgePending := edgeLatch_reporting ..
      _ = false := hedge

end Sys2Proof.Machine
end

section
/-! The cell table of R61 and the two functions that go through it. -/

namespace Sys2Proof.Machine

/-- The index column of R61. -/
def cellIndex : Cell → Nat
  | .lo => 0
  | .hi => 1
  | .tStart => 2
  | .tEnd => 3
  | .ready => 4
  | .duty => 5
  | .mode => 6

/-- The index column is what `cellOfIndex` reads: the two are inverse to each other. -/
theorem cellOfIndex_eq_some {index : Nat} {c : Cell} : cellOfIndex index = some c ↔ index = cellIndex c := by
  constructor
  · unfold cellOfIndex
    split <;> rintro ⟨⟩ <;> rfl
  · rintro rfl
    cases c <;> rfl

/-- MemRead answers for the index and the size of a cell, and then that cell's whole value (R61). -/
theorem memRead_eq_some {s : State} {index n v : Nat} :
    memRead s index n = some v ↔ ∃ c, index = cellIndex c ∧ n = cellSize c ∧ v = readCell s c := by
  simp only [← cellOfIndex_eq_some, memRead]
  cases cellOfIndex index with
  | none => simp
  | some c => simp [eq_comm]

/-- MemWrite answers for the index and the size of a cell and a value its bits hold, and then the state with that cell
replaced (R61, log 17). -/
theorem memWrite_eq_some {s t : State} {index n v : Nat} :
    memWrite s index n v = some t ↔
      ∃ c, index = cellIndex c ∧ n = cellSize c ∧ v < 2 ^ cellBits c ∧ t = writeCell s c v := by
  simp only [← cellOfIndex_eq_some, memWrite]
  cases cellOfIndex index with
  | none => simp
  | some c => simp [and_assoc, eq_comm (a := t)]

/-- MemRead of a cell at its own index and size. -/
theorem memRead_cell (s : State) (c : Cell) : memRead s (cellIndex c) (cellSize c) = some (readCell s c) :=
  memRead_eq_some.2 ⟨c, rfl, rfl, rfl⟩

/-- MemWrite of a cell at its own index and size, with a value its bits hold, leaves what `writeCell` gives. -/
theorem memWrite_cell {s t : State} (c : Cell) {v : Nat} (hv : v < 2 ^ cellBits c) (ht : writeCell s c v = t) :
    memWrite s (cellIndex c) (cellSize c) v = some t :=
  memWrite_eq_some.2 ⟨c, rfl, rfl, hv, ht.symm⟩

/-- The index and size columns of R61, row by row. -/
theorem mem_indexSizeTable {index n : Nat} :
    (index, n) ∈ [(0, 1), (1, 1), (2, 2), (3, 2), (4, 1), (5, 1), (6, 1)] ↔
      ∃ c, index = cellIndex c ∧ n = cellSize c := by
  constructor
  · intro h
    simp only [List.mem_cons, Prod.mk.injEq, List.not_mem_nil, or_false] at h
    rcases h with h | h | h | h | h | h | h
    exacts [⟨.lo, h⟩, ⟨.hi, h⟩, ⟨.tStart, h⟩, ⟨.tEnd, h⟩, ⟨.ready, h⟩, ⟨.duty, h⟩, ⟨.mode, h⟩]
  · rintro ⟨c, rfl, rfl⟩
    cases c <;> decide

/-- The index, size and bits-used columns of R61, row by row. -/
theorem mem_indexSizeBitsTable {index n bits : Nat} :
    (index, n, bits) ∈ [(0, 1, 8), (1, 1, 8), (2, 2, 16), (3, 2, 16), (4, 1, 1), (5, 1, 8), (6, 1, 2)] ↔
      ∃ c, index = cellIndex c ∧ n = cellSize c ∧ bits = cellBits c := by
  constructor
  · intro h
    simp only [List.mem_cons, Prod.mk.injEq, List.not_mem_nil, or_false] at h
    rcases h with h | h | h | h | h | h | h
    exacts [⟨.lo, h⟩, ⟨.hi, h⟩, ⟨.tStart, h⟩, ⟨.tEnd, h⟩, ⟨.ready, h⟩, ⟨.duty, h⟩, ⟨.mode, h⟩]
  · rintro ⟨c, rfl, rfl, rfl⟩
    cases c <;> decide

/-- MemRead answers exactly for the index and size columns of R61. -/
theorem memRead_defined_iff {s : State} {index n : Nat} :
    (∃ v, memRead s index n = some v) ↔ ∃ c, index = cellIndex c ∧ n = cellSize c := by
  simp only [memRead_eq_some]
  constructor
  · rintro ⟨_, c, hindex, hsize, -⟩
    exact ⟨c, hindex, hsize⟩
  · rintro ⟨c, hindex, hsize⟩
    exact ⟨_, c, hindex, hsize, rfl⟩

/-- MemWrite answers exactly for the index and size columns of R61 and a value below the bound of the third. -/
theorem memWrite_defined_iff {s : State} {index n v : Nat} :
    (∃ t, memWrite s index n v = some t) ↔
      ∃ bits, (∃ c, index = cellIndex c ∧ n = cellSize c ∧ bits = cellBits c) ∧ v < 2 ^ bits := by
  simp only [memWrite_eq_some]
  constructor
  · rintro ⟨_, c, hindex, hsize, hv, -⟩
    exact ⟨_, ⟨c, hindex, hsize, rfl⟩, hv⟩
  · rintro ⟨_, ⟨c, hindex, hsize, rfl⟩, hv⟩
    exact ⟨_, c, hindex, hsize, hv, rfl⟩

/-- MemRead depends on the state through the cells it can name only. -/
theorem memRead_congr {s t : State} {j : Nat} (h : ∀ c, j = cellIndex c → readCell t c = readCell s c) (m : Nat) :
    memRead t j m = memRead s j m := by
  unfold memRead
  cases hc : cellOfIndex j with
  | none => rfl
  | some c => simp only [h c (cellOfIndex_eq_some.1 hc)]

/-- After a MemWrite the cell reads as the value written and every other index as before (R61). -/
theorem memRead_after_memWrite {s t : State} {index n v : Nat} (h : memWrite s index n v = some t) :
    memRead t index n = some v ∧ ∀ j m, j ≠ index → memRead t j m = memRead s j m := by
  obtain ⟨c, rfl, rfl, hv, rfl⟩ := memWrite_eq_some.1 h
  constructor
  · rw [memRead_cell, readCell_writeCell_same s c v hv]
  · intro j m hj
    refine memRead_congr (fun d hd => ?_) m
    exact readCell_writeCell_other s v fun hdc => hj (hdc ▸ hd)

/-! A cell's write, given a value of the cell's own width, replaces the named field and no other (R61). -/

theorem writeCell_lo (s : State) (v : Byte) : writeCell s .lo v.toNat = { s with lo := v } := by
  simp [writeCell]

theorem writeCell_hi (s : State) (v : Byte) : writeCell s .hi v.toNat = { s with hi := v } := by
  simp [writeCell]

theorem writeCell_tStart (s : State) (v : Tick) : writeCell s .tStart v.toNat = { s with tStart := v } := by
  simp [writeCell]

theorem writeCell_tEnd (s : State) (v : Tick) : writeCell s .tEnd v.toNat = { s with tEnd := v } := by
  simp [writeCell]

theorem writeCell_ready (s : State) (v : Level) : writeCell s .ready v.toNat = { s with ready := v } := by
  cases v <;> rfl

theorem writeCell_duty (s : State) (v : Byte) : writeCell s .duty v.toNat = { s with duty := v } := by
  simp [writeCell]

theorem writeCell_mode (s : State) (v : BitVec 2) : writeCell s .mode v.toNat = { s with mode := v } := by
  simp [writeCell]

/-- Settles O44: both functions go through the one table of R61. -/
theorem cellsAreReadAndWrittenWhole : Obligations.CellsAreReadAndWrittenWhole := by
  refine ⟨fun s => ?_, fun s => ?_, fun s index n => ⟨?_, fun v => ?_⟩, fun s t index n v h => memRead_after_memWrite h⟩
  · exact ⟨memRead_cell s .lo, memRead_cell s .hi, memRead_cell s .tStart, memRead_cell s .tEnd, memRead_cell s .ready,
      memRead_cell s .duty, memRead_cell s .mode⟩
  · exact ⟨fun v => memWrite_cell .lo v.isLt (writeCell_lo s v), fun v => memWrite_cell .hi v.isLt (writeCell_hi s v),
      fun v => memWrite_cell .tStart v.isLt (writeCell_tStart s v),
      fun v => memWrite_cell .tEnd v.isLt (writeCell_tEnd s v),
      fun v => memWrite_cell .ready v.toNat_lt (writeCell_ready s v),
      fun v => memWrite_cell .duty v.isLt (writeCell_duty s v),
      fun v => memWrite_cell .mode v.isLt (writeCell_mode s v)⟩
  · rw [memRead_defined_iff, mem_indexSizeTable]
  · simp only [memWrite_defined_iff, mem_indexSizeBitsTable]

end Sys2Proof.Machine
end

section
/-! The table of R100 read both ways: what the decoder makes of an operation's command word, and which word an operation it
read stands for (R92, R93, R101). -/

namespace Sys2Proof.Machine

/-- A bit string is its high part followed by its low part. -/
theorem extractLsb'_append_low {n m : Nat} (x : BitVec (n + m)) : x.extractLsb' m n ++ x.extractLsb' 0 m = x :=
  (BitVec.extractLsb'_append_extractLsb'_eq_extractLsb' (Nat.zero_add m).symm).trans BitVec.extractLsb'_eq_self

/-- The lowest bit, read as a field of width 1, is the level it holds (R93). -/
theorem extractLsb'_zero_one {n : Nat} (x : BitVec n) : x.extractLsb' 0 1 = BitVec.ofBool (x.getLsbD 0) := by
  ext k hk
  obtain rfl : k = 0 := by omega
  simp

/-- A command word is its operation byte and its operand byte (R92). -/
theorem opField_append_argField (w : CommandWord) : opField w ++ argField w = w :=
  extractLsb'_append_low (n := 8) (m := 8) w

theorem opField_append (op arg : Byte) : opField (op ++ arg) = op := by
  simp only [opField, BitVec.extractLsb'_append_eq_left]

theorem argField_append (op arg : Byte) : argField (op ++ arg) = arg := by
  simp only [argField, BitVec.extractLsb'_append_eq_right]

/-- A word decodes to an operation exactly when its operation byte has a row and the row reads its operand byte (R101). -/
theorem decode_eq_ok_iff {w : CommandWord} {i : Instr} :
    decode w = .ok i ↔ ∃ read, operandReader (opField w) = some read ∧ read (argField w) = some i := by
  unfold decode
  cases operandReader (opField w) with
  | none => simp
  | some read => cases hread : read (argField w) <;> simp [hread]

/-- `decode_eq_ok_iff` for a word given as its two bytes. -/
theorem decode_append {op arg : Byte} {read : Byte → Option Instr} {i : Instr} (hrow : operandReader op = some read)
    (hread : read arg = some i) : decode (op ++ arg) = .ok i :=
  decode_eq_ok_iff.2 ⟨read, (opField_append op arg).symm ▸ hrow, (argField_append op arg).symm ▸ hread⟩

/-! The formats with an operand read back the operand the encoder placed (R92, R93). -/

theorem formatL_operand (f : Level → Instr) (v : Level) : formatL f (0#7 ++ BitVec.ofBool v) = some (f v) := by
  rw [formatL_eq_some]
  cases v <;> exact ⟨rfl, rfl⟩

theorem formatM_operand (f : BitVec 2 → Instr) (m : BitVec 2) : formatM f (0#6 ++ m) = some (f m) := by
  rw [formatM_eq_some, BitVec.extractLsb'_append_eq_left, BitVec.extractLsb'_append_eq_right]
  exact ⟨rfl, rfl⟩

/-- Every operand fits its format (R92). -/
theorem instr_wellFormed (i : Instr) : i.wellFormed = true := by
  cases i with
  | pin v => exact (Laws.OperandField.pin v).1
  | txStart d => exact (Laws.OperandField.txStart d).1
  | bootMode m => exact (Laws.OperandField.bootMode m).1
  | _ => rfl

/-- The decoder reads an operation back from its command word (R100). -/
theorem decode_encode (i : Instr) : decode (encode i) = .ok i := by
  cases i with
  | pin v => exact decode_append rfl (formatL_operand .pin v)
  | txStart d => exact decode_append rfl rfl
  | bootMode m => exact decode_append rfl (formatM_operand .bootMode m)
  | _ => rfl

/-- What a row of the table must satisfy: an operation it reads from an operand byte has the word of the row's operation
byte and that operand byte. -/
def ReadsWordsOf (op : Byte) (read : Byte → Option Instr) : Prop :=
  ∀ arg i, read arg = some i → encode i = op ++ arg

theorem formatE_readsWordsOf {op : Byte} {i : Instr} (h : encode i = op ++ 0#8) : ReadsWordsOf op (formatE i) := by
  intro arg j hread
  obtain ⟨rfl, rfl⟩ := formatE_eq_some.1 hread
  exact h

theorem formatB_readsWordsOf {op : Byte} {f : Byte → Instr} (h : ∀ d, encode (f d) = op ++ d) :
    ReadsWordsOf op (formatB f) := by
  intro arg j hread
  obtain rfl := formatB_eq_some.1 hread
  exact h arg

theorem formatL_readsWordsOf {op : Byte} {f : Level → Instr} (h : ∀ v, encode (f v) = op ++ (0#7 ++ BitVec.ofBool v)) :
    ReadsWordsOf op (formatL f) := by
  intro arg j hread
  obtain ⟨hzero, rfl⟩ := formatL_eq_some.1 hread
  rw [h, ← hzero, ← extractLsb'_zero_one]
  exact congrArg _ (extractLsb'_append_low (n := 7) (m := 1) arg)

theorem formatM_readsWordsOf {op : Byte} {f : BitVec 2 → Instr} (h : ∀ m, encode (f m) = op ++ (0#6 ++ m)) :
    ReadsWordsOf op (formatM f) := by
  intro arg j hread
  obtain ⟨hzero, rfl⟩ := formatM_eq_some.1 hread
  rw [h, ← hzero]
  exact congrArg _ (extractLsb'_append_low (n := 6) (m := 2) arg)

/-- Every row of the table of R100 reads the words of its own operation byte only. Between PIN (format L), TX.START (B) and
BOOT.MODE (M) the rows are of format E. -/
theorem operandReader_readsWordsOf (op : Byte) : ∀ read, operandReader op = some read → ReadsWordsOf op read := by
  unfold operandReader
  have rowE {c : Byte} {i : Instr} (h : encode i = c ++ 0#8) (hop : op = c) : ReadsWordsOf op (formatE i) :=
    hop ▸ formatE_readsWordsOf h
  iterate 7 refine forall_reader_ite (rowE rfl) ?_
  refine forall_reader_ite (fun hop => hop ▸ formatL_readsWordsOf fun _ => rfl) ?_
  iterate 8 refine forall_reader_ite (rowE rfl) ?_
  refine forall_reader_ite (fun hop => hop ▸ formatB_readsWordsOf fun _ => rfl) ?_
  iterate 8 refine forall_reader_ite (rowE rfl) ?_
  refine forall_reader_ite (fun hop => hop ▸ formatM_readsWordsOf fun _ => rfl) ?_
  refine forall_reader_ite (rowE rfl) ?_
  exact fun _ h => nomatch h

/-- A word that decodes is the command word of its operation (R101). -/
theorem encode_of_decode {w : CommandWord} {i : Instr} (h : decode w = .ok i) : encode i = w := by
  obtain ⟨read, hrow, hread⟩ := decode_eq_ok_iff.1 h
  rw [operandReader_readsWordsOf _ read hrow _ i hread, opField_append_argField]

/-- Settles O27: operation by operation, the row of the operation byte reads back the operand the encoder placed. -/
theorem decodeAfterEncode : Obligations.DecodeAfterEncode :=
  fun i => ⟨instr_wellFormed i, decode_encode i⟩

/-- Settles O28: row by row of the table, the operand read determines the operand byte. -/
theorem encodeAfterDecode : Obligations.EncodeAfterDecode := by
  refine ⟨fun w i => encode_of_decode, fun w hw => ?_⟩
  cases h : decode w with
  | error e => exact ⟨e, rfl⟩
  | ok i => exact absurd (encode_of_decode h) (hw i)

/-- Settles O26: each valid word is the word of its operation; each other word has no row or a bit its row does not read. -/
theorem tableWordsDecode : Obligations.TableWordsDecode :=
  ⟨decode_encode .tick, decode_encode (.pin true), decode_encode (.txStart 0xFF#8), decode_encode (.bootMode 3#2),
    decode_encode .mlClassify, rfl, rfl, rfl, rfl, rfl⟩

end Sys2Proof.Machine
end

section
/-! The turn a step takes, and what a presented word does (R101, R104, R203). -/

namespace Sys2Proof.Machine

/-- A step with a turn placed takes that turn. -/
theorem step_of_placed {s : State} {turn : Turn} {rest : List Turn} (h : s.schedule = turn :: rest) :
    step s = takeTurn turn { s with schedule := rest } := by
  rw [step, h]

/-- A step with no turn placed takes a free one (R283). -/
theorem step_of_unplaced {s : State} (h : s.schedule = []) : step s = freeStep s := by
  rw [step, h]

/-- A word that decodes is the operation it stands for (R101). -/
theorem takeTurn_word_of_ok {w : CommandWord} {i : Instr} (h : decode w = .ok i) (s : State) :
    takeTurn (.word w) s = runOp i s := by
  rw [takeTurn, presentWord, h]

/-- An invalid word has no step (R101). -/
theorem takeTurn_word_of_error {w : CommandWord} {e : DecodeError} (h : decode w = .error e) (s : State) :
    takeTurn (.word w) s = .refused .invalidWord := by
  rw [takeTurn, presentWord, h]

theorem runOp_of_next {i : Instr} {s t : State} (h : exec i s = .next t) : runOp i s = .next (reportProgress i t) := by
  rw [runOp, h]

theorem runOp_of_refused {i : Instr} {s : State} {r : Refusal} (h : exec i s = .refused r) : runOp i s = .refused r := by
  rw [runOp, h]

/-- ML.REPORT adds nothing to a TICK (R103). -/
theorem runOp_tick (s : State) : runOp .tick s = exec .tick s := rfl

/-- Settles O29: a placed word is decoded and run, and ML.REPORT's writes are those of `reportProgress_writes`; a free turn
is one of the two cases of `freeStep_cases`. -/
theorem stepRunsTheDecodedOperation : Obligations.StepRunsTheDecodedOperation := by
  refine ⟨fun s w rest hs => ⟨fun i hi => ?_, fun e he => ?_⟩, fun s turn rest => step_of_placed, fun s hs => ?_⟩
  · have hstep : step s = runOp i { s with schedule := rest } :=
      (step_of_placed hs).trans (takeTurn_word_of_ok hi _)
    refine ⟨fun t ht => ?_, fun r hr => hstep.trans (runOp_of_refused hr)⟩
    have hnext : step s = .next (reportProgress i t) := hstep.trans (runOp_of_next ht)
    refine ⟨hnext, fun hout hidle => ?_, fun hout => ?_, ?_⟩
    · rw [hnext, reportProgress_of_idle hout hidle]
    · rw [reportProgress_of_not_inReport hout]
    · rw [reportProgress_writes]
  · rw [step_of_placed hs, takeTurn_word_of_error he]
  · rw [step_of_unplaced hs, ← runOp_tick]
    exact freeStep_cases s

end Sys2Proof.Machine
end

section
/-! Decimal text (R89): the recursion on the number itself, and what follows by it. -/

namespace Sys2Proof.Machine

/-- Enough fuel is as good as any other: a number has no more digits than itself plus one. -/
theorem decimalDigits_of_fuel {fuel n : Nat} (h : n < fuel) : decimalDigits fuel n = decimal n := by
  induction n using Nat.strong_induction_on generalizing fuel with
  | _ n ih =>
    obtain ⟨fuel, rfl⟩ := Nat.exists_eq_add_of_lt h
    simp only [decimal, decimalDigits]
    split
    · rfl
    · rw [ih (n / 10) (by omega) (by omega), ih (n / 10) (by omega) (by omega)]

/-- A number below ten is its digit (R89). -/
theorem decimal_of_lt {n : Nat} (h : n < 10) : decimal n = [digitByte n] := by
  rw [decimal, decimalDigits, if_pos h]

/-- Any other number is the decimal of its tens, then its last digit (R89). -/
theorem decimal_of_ge {n : Nat} (h : 10 ≤ n) : decimal n = decimal (n / 10) ++ [digitByte (n % 10)] := by
  rw [decimal, decimalDigits, if_neg (by omega), decimalDigits_of_fuel (by omega)]

/-- What holds of a single digit, and of a number when it holds of its tens, holds of every number. -/
theorem decimal_induction {P : Nat → Prop} (digit : ∀ n, n < 10 → P n) (tens : ∀ n, 10 ≤ n → P (n / 10) → P n) (n : Nat) :
    P n := by
  induction n using Nat.strong_induction_on with
  | _ n ih =>
    rcases Nat.lt_or_ge n 10 with hn | hn
    · exact digit n hn
    · exact tens n hn (ih (n / 10) (by omega))

theorem decimalValue_append_digit (ds : List Byte) {n : Nat} (h : n < 10) :
    decimalValue (ds ++ [digitByte n]) = 10 * decimalValue ds + n := by
  simp [decimalValue, digitByte_toNat h]

/-- The decimal of a number reads back as the number (R89). -/
theorem decimalValue_decimal (n : Nat) : decimalValue (decimal n) = n := by
  induction n using decimal_induction with
  | digit n hn => simpa [decimal_of_lt hn, decimalValue] using decimalValue_append_digit [] hn
  | tens n hn ih =>
    rw [decimal_of_ge hn, decimalValue_append_digit _ (Nat.mod_lt n (by decide)), ih]
    omega

theorem decimal_ne_nil (n : Nat) : decimal n ≠ [] := by
  induction n using decimal_induction with
  | digit n hn => simp [decimal_of_lt hn]
  | tens n hn _ => simp [decimal_of_ge hn]

/-- A decimal holds digits only (R89). -/
theorem mem_decimal {n : Nat} {d : Byte} (h : d ∈ decimal n) : ∃ k < 10, d = digitByte k := by
  induction n using decimal_induction with
  | digit n hn =>
    rw [decimal_of_lt hn, List.mem_singleton] at h
    exact ⟨n, hn, h⟩
  | tens n hn ih =>
    rw [decimal_of_ge hn, List.mem_append, List.mem_singleton] at h
    rcases h with h | h
    · exact ih h
    · exact ⟨n % 10, Nat.mod_lt n (by decide), h⟩

/-- Only the decimal of 0 begins with the digit 0 (R89). -/
theorem eq_zero_of_head_decimal {n : Nat} (h : (decimal n).head? = some 0x30#8) : n = 0 := by
  induction n using decimal_induction with
  | digit n hn =>
    rw [decimal_of_lt hn, List.head?_singleton, Option.some.injEq] at h
    have := digitByte_toNat hn
    rw [h, BitVec.toNat_ofNat] at this
    omega
  | tens n hn ih =>
    rw [decimal_of_ge hn, List.head?_append_of_ne_nil _ (decimal_ne_nil _)] at h
    have := ih h
    omega

/-- A number below `10 ^ k` has at most `k` digits. -/
theorem decimal_length_le {k n : Nat} (hk : 1 ≤ k) (h : n < 10 ^ k) : (decimal n).length ≤ k := by
  induction k, hk using Nat.le_induction generalizing n with
  | base => simp [decimal_of_lt (n := n) (by omega)]
  | succ k hk ih =>
    rcases Nat.lt_or_ge n 10 with hn | hn
    · simp [decimal_of_lt hn]
    · have := ih (n := n / 10) (Nat.div_lt_of_lt_mul (by rw [mul_comm, ← pow_succ]; exact h))
      simpa [decimal_of_ge hn] using this

theorem decimal_length_pos (n : Nat) : 1 ≤ (decimal n).length :=
  List.length_pos_of_ne_nil (decimal_ne_nil n)

/-- Settles O60, by induction along the digits. -/
theorem decimalReadsBack : Obligations.DecimalReadsBack := by
  refine ⟨fun n => ⟨decimalValue_decimal n, decimal_ne_nil n, fun d hd => ?_, fun h => ?_⟩,
    fun x => ⟨fun hx => if_pos hx, fun hx => if_neg (Int.not_lt.2 hx)⟩⟩
  · obtain ⟨k, hk, rfl⟩ := mem_decimal hd
    have := digitByte_toNat hk
    omega
  · obtain rfl := eq_zero_of_head_decimal h
    exact ⟨rfl, decimal_of_lt (by decide)⟩

end Sys2Proof.Machine
end

section
/-! The layout and the length of the diagnostic line (R87 to R91). -/

namespace Sys2Proof.Machine

/-- The text of a width has one to six bytes: a sign and at most five digits (R82, R89). -/
theorem signedDecimal_signed16_length (w : Tick) :
    1 ≤ (signedDecimal (signed16 w)).length ∧ (signedDecimal (signed16 w)).length ≤ 6 := by
  have hbounds := signed16_bounds w
  have hpos := decimal_length_pos (signed16 w).natAbs
  have hle : (decimal (signed16 w).natAbs).length ≤ 5 := decimal_length_le (by decide) (by omega)
  unfold signedDecimal
  split
  · rw [List.length_cons]; omega
  · omega

/-- A duty byte has one to three digits (R90). -/
theorem decimal_byte_length (d : Byte) : 1 ≤ (decimal d.toNat).length ∧ (decimal d.toNat).length ≤ 3 :=
  ⟨decimal_length_pos _, decimal_length_le (by decide) (by omega)⟩

/-- The fields of the diagnostic line in order (R87). -/
theorem diagnosticLine_eq (c : Configuration) (mode : BitVec 2) (w : Tick) (band : BandValue) (dnew : Byte) :
    diagnosticLine c mode w band dnew =
      [digitByte mode.toNat, 0x09#8] ++ signedDecimal (signed16 w) ++ [0x09#8] ++ bandOrDuty c band dnew ++
        [0x0D#8, 0x0A#8] := by
  simp [diagnosticLine, tabByte, endOfLine]

/-- Beside width and band text the line holds five bytes: the mode digit, two TABs, CR and LF (R87). -/
theorem diagnosticLine_length (c : Configuration) (mode : BitVec 2) (w : Tick) (band : BandValue) (dnew : Byte) :
    (diagnosticLine c mode w band dnew).length =
      (signedDecimal (signed16 w)).length + (bandOrDuty c band dnew).length + 5 := by
  simp only [diagnosticLine_eq, List.length_append, List.length_cons, List.length_nil]
  omega

/-! The band field, policy by policy (R90; log 23 for `none`). -/

theorem bandOrDuty_continuous {c : Configuration} (h : c.mapPolicy = .continuous) (band : BandValue) (dnew : Byte) :
    bandOrDuty c band dnew = decimal dnew.toNat := by
  simp only [bandOrDuty, h]

theorem bandOrDuty_inBand {c : Configuration} (h : c.mapPolicy = .banded) (b : Band) (dnew : Byte) :
    bandOrDuty c (.inBand b) dnew = b.code := by
  simp only [bandOrDuty, h]

theorem bandOrDuty_out {c : Configuration} (h : c.mapPolicy = .banded) (k : OutKind) (dnew : Byte) :
    bandOrDuty c (.out k) dnew = c.oorText := by
  simp only [bandOrDuty, h]

theorem bandOrDuty_none {c : Configuration} (h : c.mapPolicy = .banded) (dnew : Byte) :
    bandOrDuty c .none dnew = Config.noBandText dnew := by
  simp only [bandOrDuty, h]

/-- Settles O59: the fields of the line in order, and its length from the lengths of the two that vary. -/
theorem diagnosticLineLayout : Obligations.DiagnosticLineLayout := by
  refine ⟨fun c mode w band dnew => ?_, rfl⟩
  have hmode : mode.toNat < 10 := by omega
  obtain ⟨hshort, hlong⟩ := signedDecimal_signed16_length w
  rw [diagnosticLine_length]
  refine ⟨diagnosticLine_eq c mode w band dnew, digitByte_toNat hmode, fun hc => bandOrDuty_continuous hc band dnew,
    fun hb => ⟨?_, ?_, ?_⟩, fun hone => ?_, fun hc => ?_⟩
  · rintro b rfl
    exact bandOrDuty_inBand hb b dnew
  · rintro k rfl
    exact bandOrDuty_out hb k dnew
  · rintro rfl
    exact bandOrDuty_none hb dnew
  · omega
  · obtain ⟨hone, hthree⟩ := decimal_byte_length dnew
    rw [bandOrDuty_continuous hc]
    omega

end Sys2Proof.Machine
end

section
/-! The true tick (R117): how it moves with the low and the high byte, and with a TICK and an OVF.ISR. -/

namespace Sys2Proof.Machine

/-- Counting up the low byte without a wrap counts up the Tick (R80). -/
theorem composeTick_add_low (high : Byte) {low : Byte} {n : Nat} (h : low.toNat + n < 256) :
    composeTick high (low + BitVec.ofNat 8 n) = composeTick high low + BitVec.ofNat 16 n := by
  apply BitVec.eq_of_toNat_eq
  simp only [composeTick_toNat, BitVec.toNat_add, BitVec.toNat_ofNat]
  omega

/-- Each count of the high byte is worth 256, past its wrap too (R80). -/
theorem composeTick_add_high (high low : Byte) (n : Nat) :
    composeTick (high + BitVec.ofNat 8 n) low = composeTick high low + BitVec.ofNat 16 (256 * n) := by
  apply BitVec.eq_of_toNat_eq
  simp only [composeTick_toNat, BitVec.toNat_add, BitVec.toNat_ofNat]
  omega

/-- With an overflow latched the true tick is 256 ahead of the two cells (R117). -/
theorem tickTrue_of_latch {s : State} (h : s.ovfPending = true) : tickTrue s = composedTick s + 256#16 := by
  simp [tickTrue, composedTick, h]

/-- Below 255 a TICK counts in `lo` and leaves the latch (R111). -/
theorem tickTrue_tick_of_no_wrap {s : State} (h : s.lo ≠ 255#8) : tickTrue (effect .tick s) = tickTrue s + 1#16 := by
  have hlow : composedTick (effect .tick s) = composedTick s + 1#16 :=
    composeTick_add_low s.hi (n := 1) (by bv_omega)
  have hlatch : (effect .tick s).ovfPending = s.ovfPending := if_neg h
  cases hp : s.ovfPending with
  | false => rw [tickTrue_of_no_latch (hlatch.trans hp), tickTrue_of_no_latch hp, hlow]
  | true => rw [tickTrue_of_latch (hlatch.trans hp), tickTrue_of_latch hp, hlow, add_right_comm]

/-- A wrap takes 255 from the two cells and leaves the latch set (R111). -/
theorem tickTrue_tick_of_wrap {s : State} (h : s.lo = 255#8) :
    tickTrue (effect .tick s) = composedTick s - 255#16 + 256#16 := by
  have hlatch : (effect .tick s).ovfPending = true := if_pos h
  have hlo : s.lo + 1#8 = 0#8 := by rw [h]; rfl
  have hzero : composedTick (effect .tick s) = composeTick s.hi 0#8 := congrArg (composeTick s.hi) hlo
  have hlow : composedTick s = composeTick s.hi 0#8 + 255#16 :=
    (congrArg (composeTick s.hi) h).trans (composeTick_add_low s.hi (low := 0#8) (n := 255) (by decide))
  rw [tickTrue_of_latch hlatch, hzero, hlow, BitVec.add_sub_cancel]

/-- Serving the overflow moves its 256 from the latch to `hi` (R112). -/
theorem tickTrue_overflowHandler {s : State} (h : s.ovfPending = true) : tickTrue (overflowHandler s) = tickTrue s := by
  rw [tickTrue_of_no_latch rfl, tickTrue_of_latch h]
  exact composeTick_add_high s.hi s.lo 1

/-- Settles O45: a TICK that does not wrap, one that latches the wrap, one whose wrap finds the latch set; then OVF.ISR. -/
theorem trueTickAdvancesByOne : Obligations.TrueTickAdvancesByOne := by
  refine ⟨fun s t h => ?_, fun s t h => ?_⟩
  · obtain ⟨-, rfl⟩ := (exec_eq_next_iff _ s t).1 h
    refine ⟨fun hkept => ?_, fun ⟨hwrap, hp⟩ => ?_⟩
    · by_cases hwrap : s.lo = 255#8
      · have hp : s.ovfPending = false := by simpa [hwrap] using hkept
        rw [tickTrue_tick_of_wrap hwrap, tickTrue_of_no_latch hp]
        bv_omega
      · exact tickTrue_tick_of_no_wrap hwrap
    · rw [tickTrue_tick_of_wrap hwrap, tickTrue_of_latch hp]
      bv_omega
  · obtain ⟨⟨-, hp, -⟩, rfl⟩ := (exec_eq_next_iff _ s t).1 h
    exact tickTrue_overflowHandler hp

end Sys2Proof.Machine
end

section
/-! The window of NOW (R117, R118): what falls between its micro-steps, and the snapshot it composes. -/

namespace Sys2Proof.Machine

/-- The events of the window leave `lo_snap`, and OVF.ISR alone counts up `hi` (R43). -/
theorem effect_of_windowEvent {i : Instr} (h : isWindowEvent i = true) (s : State) :
    (effect i s).loSnap = s.loSnap ∧
      (effect i s).hi = s.hi + BitVec.ofNat 8 (if i == .ovfIsr then 1 else 0) := by
  cases i with
  | tick | pin v => exact ⟨rfl, (BitVec.add_zero _).symm⟩
  | ovfIsr => exact ⟨rfl, rfl⟩
  | _ => exact nomatch h

/-- ML.REPORT adds nothing to the events of the window (R103). -/
theorem runOp_of_windowEvent {i : Instr} (hi : isWindowEvent i = true) {s t : State} (h : runOp i s = .next t) :
    t = effect i s := by
  obtain ⟨-, rfl⟩ := (runOp_eq_next_iff i s t).1 h
  cases i with
  | tick | pin v | ovfIsr => rfl
  | _ => exact nomatch hi

/-- Over a sequence of such events `hi` counts the overflows served. -/
theorem runOps_windowEvents {is : List Instr} (his : ∀ i ∈ is, isWindowEvent i = true) {s t : State}
    (h : runOps is s = .next t) :
    t.loSnap = s.loSnap ∧ t.hi = s.hi + BitVec.ofNat 8 (is.count .ovfIsr) := by
  induction is generalizing s with
  | nil =>
    cases h
    exact ⟨rfl, (BitVec.add_zero _).symm⟩
  | cons i is ih =>
    obtain ⟨u, hu, hrest⟩ := (runOps_cons i is s t).1 h
    obtain ⟨hi, his⟩ := List.forall_mem_cons.1 his
    obtain rfl := runOp_of_windowEvent hi hu
    obtain ⟨hlo, hhi⟩ := effect_of_windowEvent hi s
    obtain ⟨hlo', hhi'⟩ := ih his hrest
    refine ⟨hlo'.trans hlo, ?_⟩
    rw [hhi', hhi, List.count_cons, Nat.add_comm, BitVec.ofNat_add, BitVec.add_assoc]

theorem isWindowEvent_of_isInput {i : Instr} (h : isInput i = true) : isWindowEvent i = true := by
  cases i with
  | tick | pin v => rfl
  | _ => exact nomatch h

/-- TICK and PIN serve no overflow: after NOW.CLI neither byte of the snapshot moves (R117 e). -/
theorem runOps_inputs {is : List Instr} (his : ∀ i ∈ is, isInput i = true) {s t : State}
    (h : runOps is s = .next t) : t.loSnap = s.loSnap ∧ t.hi = s.hi := by
  have hnone : is.count .ovfIsr = 0 := List.count_eq_zero.2 fun hmem => nomatch his _ hmem
  obtain ⟨hlo, hhi⟩ := runOps_windowEvents (fun i hi => isWindowEvent_of_isInput (his i hi)) h
  exact ⟨hlo, by rw [hhi, hnone, BitVec.add_zero]⟩

/-- In the open window a micro-step finds no overflow latched (R114, R115). -/
theorem MicroReady.no_latch {p : EcPhase} {s : State} (h : MicroReady p s) (hie : s.ie = true) :
    s.ovfPending = false := by
  obtain ⟨hctx, -, hd⟩ := h
  simpa [dispatchEnabled_edge hctx, hie] using hd

/-- Settles O46: the low byte is that of NOW.RDLO, the high byte that of NOW.RDHI, which has counted the overflows served
in the window and no others. -/
theorem snapshotOverCountsByServedOverflows : Obligations.SnapshotOverCountsByServedOverflows := by
  intro s t window late hie hwindow hlate h
  simp only [runOps_append, runOps_cons, runOp_eq_next_iff] at h
  obtain ⟨c, ⟨a, ⟨_, ⟨hrdlo, rfl⟩, ha⟩, _, ⟨-, rfl⟩, hc⟩, _, ⟨-, rfl⟩, ht⟩ := h
  cases ht
  have htrue : tickTrue s = composedTick s := tickTrue_of_no_latch (MicroReady.no_latch hrdlo hie)
  obtain ⟨halo, hahi⟩ := runOps_windowEvents hwindow ha
  obtain ⟨hclo, hchi⟩ := runOps_inputs hlate hc
  refine ⟨htrue.symm, ?_⟩
  calc composeTick c.hi c.loSnap
    _ = composeTick a.hi a.loSnap := by rw [hchi, hclo]; rfl
    _ = composeTick (s.hi + BitVec.ofNat 8 (window.count .ovfIsr)) s.lo := by rw [hahi, halo]; rfl
    _ = composedTick s + BitVec.ofNat 16 (256 * window.count .ovfIsr) := composeTick_add_high ..
    _ = tickTrue s + BitVec.ofNat 16 (256 * window.count .ovfIsr) := by rw [htrue]

end Sys2Proof.Machine
end

section
/-! TICK steps in a row (R111, R121). -/

namespace Sys2Proof.Machine

/-- The latch after a TICK and `n` counts more: set if it was, or if the counter reaches 256 on the way (R111). -/
theorem overflowLatch_or_reaches (lo : Byte) (p : Level) (n : Nat) :
    (overflowLatch lo p || decide (256 ≤ (lo + 1#8).toNat + n)) = (p || decide (256 ≤ lo.toNat + (n + 1))) := by
  unfold overflowLatch
  split
  · next hwrap =>
    have hreach : 256 ≤ lo.toNat + (n + 1) := by
      rw [hwrap]
      exact Nat.add_le_add_left (Nat.le_add_left 1 n) 255
    simp [hreach]
  · next hlow =>
    have hsucc : (lo + 1#8).toNat = lo.toNat + 1 := by bv_omega
    rw [hsucc, Nat.add_assoc, Nat.add_comm 1]

/-- Settles O47, by induction on the number of TICK steps. -/
theorem wrapsWithoutServiceAreLost : Obligations.WrapsWithoutServiceAreLost := by
  intro n
  induction n with
  | zero =>
    intro s
    have hbelow : ¬256 ≤ s.lo.toNat := Nat.not_le.2 s.lo.isLt
    simp [runOps, hbelow]
  | succ n ih =>
    intro s
    have hlo : s.lo + 1#8 + BitVec.ofNat 8 n = s.lo + BitVec.ofNat 8 (n + 1) := by
      rw [Nat.add_comm, BitVec.ofNat_add, BitVec.add_assoc]
    have hticks : s.ticks + 1 + n = s.ticks + (n + 1) := by omega
    calc runOps (List.replicate (n + 1) .tick) s
      _ = runOps (List.replicate n .tick) (effect .tick s) := rfl
      _ = .next { s with
            lo := s.lo + 1#8 + BitVec.ofNat 8 n
            ovfPending := overflowLatch s.lo s.ovfPending || decide (256 ≤ (s.lo + 1#8).toNat + n)
            ticks := s.ticks + 1 + n } := ih (effect .tick s)
      _ = _ := by rw [hlo, overflowLatch_or_reaches, hticks]

end Sys2Proof.Machine
end

section
/-! The clock's six operations one by one (R111 to R116): an enabled one answers its `effect`, any other is refused. -/

namespace Sys2Proof.Machine

/-- A processor step needs that no dispatch is enabled (R227). -/
theorem no_dispatch_of_enabled_cpu {i : Instr} {s : State} (hi : i.agent = .cpu) (he : Enabled s i) :
    dispatchEnabled s = false := by
  cases i with
  | reset | tick | pin v | ovfIsr | ecEnter => exact nomatch hi
  | nowSei | nowRdlo | nowCli | nowRdhi | ecRdpin | ecStore | ecRet =>
    obtain ⟨-, -, hd⟩ := he
    exact hd
  | mlWidth | mlPwmwr =>
    obtain ⟨-, hd, -⟩ := he
    exact hd
  | mlClaim | mlClassify | txStart d | mlPoll | mlSuspend | mlClrrdy | mlResume | csEnter | csLeave | txData | txStop =>
    obtain ⟨⟨-, hd, -⟩, -⟩ := he
    exact hd
  | bootMode m | bootStart =>
    obtain ⟨-, -, hd, -⟩ := he
    exact hd

/-- While a dispatch is enabled every processor step is refused (R227). -/
theorem exec_cpu_refused_of_dispatch {i : Instr} {s : State} (hi : i.agent = .cpu) (hd : dispatchEnabled s = true) :
    ∃ r, exec i s = .refused r :=
  exec_refused_of_not_enabled fun he => Bool.false_ne_true ((no_dispatch_of_enabled_cpu hi he).symm.trans hd)

/-- Settles O2. -/
theorem tickCountsOnce : Obligations.TickCountsOnce :=
  ⟨decode_encode .tick, fun _ => exec_of_enabled (i := .tick) trivial⟩

/-- Settles O3. -/
theorem overflowHandlerIncrementsHigh : Obligations.OverflowHandlerIncrementsHigh :=
  ⟨decode_encode .ovfIsr, fun _ =>
    ⟨fun hie hp hfirst => exec_of_enabled (i := .ovfIsr) ⟨hie, hp, hfirst⟩,
      exec_refused_of_not_enabled (i := .ovfIsr)⟩⟩

/-- Settles O4: in the window the handler's context stops EC.ENTER, and a pending overflow can be dispatched, which stops the
processor. -/
theorem nowSeiOpensTheWindow : Obligations.NowSeiOpensTheWindow := by
  refine ⟨decode_encode .nowSei, fun s => ⟨fun h => ?_, exec_refused_of_not_enabled (i := .nowSei)⟩⟩
  have hctx : s.ctx ≠ .main := by
    obtain ⟨hedge, -, -⟩ := h
    simp [hedge]
  refine ⟨exec_of_enabled (i := .nowSei) h, exec_refused_of_not_enabled ?_, fun hp => ⟨⟨_, exec_of_enabled ?_⟩, ?_⟩⟩
  · rintro ⟨-, -, hmain, -⟩
    exact hctx hmain
  · exact ⟨rfl, hp, fun ⟨_, _, hmain⟩ => hctx hmain⟩
  · exact fun i hi => exec_cpu_refused_of_dispatch hi ((dispatchEnabled_iff _).2 ⟨rfl, .inl hp⟩)

/-- Settles O5. -/
theorem nowRdloReadsTheLowByte : Obligations.NowRdloReadsTheLowByte :=
  ⟨decode_encode .nowRdlo, fun _ =>
    ⟨exec_of_enabled (i := .nowRdlo), exec_refused_of_not_enabled (i := .nowRdlo)⟩⟩

/-- Settles O6. -/
theorem nowCliClosesTheWindow : Obligations.NowCliClosesTheWindow :=
  ⟨decode_encode .nowCli, fun _ =>
    ⟨exec_of_enabled (i := .nowCli), exec_refused_of_not_enabled (i := .nowCli)⟩⟩

/-- Settles O7: the number is that of the composed Tick. -/
theorem nowRdhiComposesTheSnapshot : Obligations.NowRdhiComposesTheSnapshot :=
  ⟨decode_encode .nowRdhi, fun s =>
    ⟨fun h => ⟨composeTick s.hi s.loSnap, composeTick_toNat s.hi s.loSnap, exec_of_enabled (i := .nowRdhi) h⟩,
      exec_refused_of_not_enabled (i := .nowRdhi)⟩⟩

end Sys2Proof.Machine
end

section
/-! Transitions of the pin (R131, R139): latched in IDLE, dropped in REPORTING, and what a sequence of them leaves. -/

namespace Sys2Proof.Machine

/-- Driving the pin to the level already there latches nothing (R131). -/
theorem edgeLatch_same (v : Level) (l : LoopState) (p : Level) : edgeLatch v v l p = p := by
  simp [edgeLatch]

/-- In IDLE the latch absorbs every transition (R131, R139). -/
theorem edgeLatch_idle (old v p : Level) : edgeLatch old v .idle p = (p || v != old) := by
  by_cases h : v = old <;> simp [edgeLatch, h]

theorem effect_pin_same (s : State) : effect (.pin s.pin) s = s := by
  rw [effect, edgeLatch_same]

theorem effect_pin_idle (v : Level) {s : State} (h : s.loopState = .idle) :
    effect (.pin v) s = { s with pin := v, edgePending := s.edgePending || v != s.pin } := by
  rw [effect, h, edgeLatch_idle]

theorem effect_pin_reporting (v : Level) {s : State} (h : s.loopState = .reporting) :
    effect (.pin v) s = { s with pin := v } := by
  rw [effect, h, edgeLatch_reporting]

/-- Settles O8. -/
theorem pinLatchesOrDropsTheEdge : Obligations.PinLatchesOrDropsTheEdge := by
  refine ⟨decode_encode (.pin false), decode_encode (.pin true), fun v s => ?_⟩
  have hrun : exec (.pin v) s = .next (effect (.pin v) s) := exec_of_enabled trivial
  refine ⟨fun hv => ?_, fun hv hl => ?_, fun _ hl => ?_⟩
  · rw [hrun, hv, effect_pin_same]
  · have hlatch : (s.edgePending || v != s.pin) = true := by simp [hv]
    rw [hrun, effect_pin_idle v hl, hlatch]
  · rw [hrun, effect_pin_reporting v hl]

/-- PIN is always enabled and ML.REPORT adds nothing to it (R103, R131). -/
theorem runOps_pin_cons (v : Level) (is : List Instr) (s : State) :
    runOps (.pin v :: is) s = runOps is (effect (.pin v) s) := rfl

/-- A level that is not `p` shows in a sequence at its head or, where the head is `p`, as a level off the head. -/
theorem bne_or_any_bne (p v : Level) (vs : List Level) :
    (v != p || vs.any (fun x => x != v)) = (v :: vs).any (fun x => x != p) := by
  rw [List.any_cons]
  by_cases h : v = p
  · rw [h]
  · rw [bne_iff_ne.2 h, Bool.true_or, Bool.true_or]

/-- In IDLE the latch remembers that some level was off the first, and nothing more (R139). -/
theorem runOps_pins_idle (vs : List Level) {s : State} (h : s.loopState = .idle) :
    runOps (vs.map .pin) s = .next { s with
      pin := vs.getLastD s.pin, edgePending := s.edgePending || vs.any (fun v => v != s.pin) } := by
  induction vs generalizing s with
  | nil => simp [runOps]
  | cons v vs ih =>
    calc runOps ((v :: vs).map .pin) s
      _ = runOps (vs.map .pin) { s with pin := v, edgePending := s.edgePending || v != s.pin } := by
        rw [List.map_cons, runOps_pin_cons, effect_pin_idle v h]
      _ = .next { s with
            pin := vs.getLastD v
            edgePending := (s.edgePending || v != s.pin) || vs.any (fun x => x != v) } := ih h
      _ = _ := by rw [Bool.or_assoc, bne_or_any_bne, List.getLastD_cons]

/-- In REPORTING the pin follows and no transition is kept (R131, R268). -/
theorem runOps_pins_reporting (vs : List Level) {s : State} (h : s.loopState = .reporting) :
    runOps (vs.map .pin) s = .next { s with pin := vs.getLastD s.pin } := by
  induction vs generalizing s with
  | nil => rfl
  | cons v vs ih =>
    calc runOps ((v :: vs).map .pin) s
      _ = runOps (vs.map .pin) { s with pin := v } := by
        rw [List.map_cons, runOps_pin_cons, effect_pin_reporting v h]
      _ = .next { s with pin := vs.getLastD v } := ih h
      _ = _ := by rw [List.getLastD_cons]

/-- Settles O49. -/
theorem transitionsAreCoalesced : Obligations.TransitionsAreCoalesced :=
  fun vs _ => ⟨runOps_pins_idle vs, runOps_pins_reporting vs⟩

end Sys2Proof.Machine
end

section
/-! The edge handler: its operations one by one (R132 to R135), and a run of it that nothing interrupts (R136). -/

namespace Sys2Proof.Machine

/-- Settles O9. -/
theorem edgeHandlerEntry : Obligations.EdgeHandlerEntry :=
  ⟨decode_encode .ecEnter, fun _ =>
    ⟨fun hie hedge hctx hfirst => exec_of_enabled (i := .ecEnter) ⟨hie, hedge, hctx, hfirst⟩,
      exec_refused_of_not_enabled (i := .ecEnter)⟩⟩

/-- Settles O10. -/
theorem ecRdpinReadsTheLevel : Obligations.EcRdpinReadsTheLevel :=
  ⟨decode_encode .ecRdpin, fun _ =>
    ⟨exec_of_enabled (i := .ecRdpin), exec_refused_of_not_enabled (i := .ecRdpin)⟩⟩

/-- A falling edge files the start alone (R134). -/
theorem effect_ecStore_of_falling {s : State} (h : s.lvl = false) :
    effect .ecStore s = { s with tStart := s.snap, ready := false, ecPhase := .ret } := by
  simp [effect, readyFromLevel, h]

/-- A rising edge files the end alone (R134). -/
theorem effect_ecStore_of_rising {s : State} (h : s.lvl = true) :
    effect .ecStore s = { s with tEnd := s.snap, ready := true, ecPhase := .ret } := by
  simp [effect, readyFromLevel, h]

/-- Settles O11, polarity by polarity. -/
theorem ecStoreFilesTheTimestamp : Obligations.EcStoreFilesTheTimestamp := by
  refine ⟨decode_encode .ecStore, fun s =>
    ⟨fun hready hlvl => ?_, fun hready hlvl => ?_, exec_refused_of_not_enabled (i := .ecStore)⟩⟩
  · rw [exec_of_enabled (i := .ecStore) hready, effect_ecStore_of_falling hlvl]
  · rw [exec_of_enabled (i := .ecStore) hready, effect_ecStore_of_rising hlvl]

/-- Settles O12: back in the main context with delivery on, either latch can be dispatched, which stops the processor. -/
theorem edgeHandlerReturn : Obligations.EdgeHandlerReturn := by
  refine ⟨decode_encode .ecRet, fun s =>
    ⟨fun hready => ⟨exec_of_enabled (i := .ecRet) hready, fun hlatch i hi => ?_⟩,
      exec_refused_of_not_enabled (i := .ecRet)⟩⟩
  exact exec_cpu_refused_of_dispatch hi ((dispatchEnabled_iff _).2 ⟨rfl, hlatch.imp_right fun hedge => ⟨hedge, rfl⟩⟩)

/-- In the handler with no overflow latched, the micro-step the phase names is ready (R228). -/
theorem microReady_of_no_latch {p : EcPhase} {s : State} (hctx : s.ctx = .edge) (hphase : s.ecPhase = p)
    (hovf : s.ovfPending = false) : MicroReady p s := by
  refine ⟨hctx, hphase, ?_⟩
  rw [dispatchEnabled_edge hctx, hovf, Bool.and_false]

/-- ML.REPORT adds nothing to the handler's micro-steps (R103). -/
theorem runOps_microStep_cons (p : EcPhase) (is : List Instr) {s : State} (h : MicroReady p s) :
    runOps (microStep p :: is) s = runOps is (effect (microStep p) s) := by
  have hreport : reportProgress (microStep p) (effect (microStep p) s) = effect (microStep p) s := by
    cases p <;> rfl
  rw [runOps, runOp_of_next (exec_of_enabled ((enabled_microStep p s).2 h)), hreport]

/-- NOW with nothing between its micro-steps composes the Tick of the two cells (R117). -/
theorem runOps_nowOps_undisturbed {s : State} (hctx : s.ctx = .edge) (hphase : s.ecPhase = .sei)
    (hovf : s.ovfPending = false) :
    runOps nowOps s = .next { s with
      ie := false, loSnap := s.lo, hiSnap := s.hi, snap := composedTick s, ecPhase := .rdpin } :=
  calc runOps nowOps s
    _ = runOps [.nowRdlo, .nowCli, .nowRdhi] { s with ie := true, ecPhase := .rdlo } :=
      runOps_microStep_cons .sei _ (microReady_of_no_latch hctx hphase hovf)
    _ = runOps [.nowCli, .nowRdhi] { s with ie := true, loSnap := s.lo, ecPhase := .cli } :=
      runOps_microStep_cons .rdlo _ (microReady_of_no_latch hctx rfl hovf)
    _ = runOps [.nowRdhi] { s with ie := false, loSnap := s.lo, ecPhase := .rdhi } :=
      runOps_microStep_cons .cli _ (microReady_of_no_latch hctx rfl hovf)
    _ = _ := runOps_microStep_cons .rdhi _ (microReady_of_no_latch hctx rfl hovf)

/-- The handler's last three micro-steps with nothing between them file the snapshot by the pin's level (R133 to R135). -/
theorem runOps_filing_undisturbed {s : State} (hctx : s.ctx = .edge) (hphase : s.ecPhase = .rdpin)
    (hovf : s.ovfPending = false) :
    runOps [.ecRdpin, .ecStore, .ecRet] s = .next { s with
      lvl := s.pin
      tStart := if s.pin then s.tStart else s.snap
      tEnd := if s.pin then s.snap else s.tEnd
      ready := s.pin
      ecPhase := .ret
      ctx := .main
      ie := true } :=
  calc runOps [.ecRdpin, .ecStore, .ecRet] s
    _ = runOps [.ecStore, .ecRet] { s with lvl := s.pin, ecPhase := .store } :=
      runOps_microStep_cons .rdpin _ (microReady_of_no_latch hctx hphase hovf)
    _ = runOps [.ecRet] { s with
          lvl := s.pin
          tStart := if s.pin then s.tStart else s.snap
          tEnd := if s.pin then s.snap else s.tEnd
          ready := s.pin
          ecPhase := .ret } :=
      runOps_microStep_cons .store _ (microReady_of_no_latch hctx rfl hovf)
    _ = _ := runOps_microStep_cons .ret _ (microReady_of_no_latch hctx rfl hovf)

/-- Settles O50: the entry, NOW and the filing in turn; the return restores the context and the gate the entry found. -/
theorem undisturbedHandlerRun : Obligations.UndisturbedHandlerRun := by
  intro s hie hedge hovf hctx
  have henter : runOp .ecEnter s = .next (enterEdgeHandler s) :=
    runOp_of_next (exec_of_enabled (i := .ecEnter) ⟨hie, hedge, hctx, fun ⟨_, hp⟩ => by simp [hovf] at hp⟩)
  refine (runOps_cons ..).2 ⟨_, henter, (runOps_append ..).2 ⟨_, runOps_nowOps_undisturbed rfl rfl hovf, ?_⟩⟩
  rw [hie, hctx]
  exact runOps_filing_undisturbed rfl rfl hovf

end Sys2Proof.Machine
end

section
/-! The width of a pulse (R151 to R153): the copies ML.CLAIM takes, their difference, and its signed reading. -/

namespace Sys2Proof.Machine

/-- Settles O13. -/
theorem mlClaimCopiesAndClears : Obligations.MlClaimCopiesAndClears :=
  ⟨decode_encode .mlClaim, fun _ =>
    ⟨fun hready hie => exec_of_enabled (i := .mlClaim) ⟨hready, hie⟩, exec_refused_of_not_enabled (i := .mlClaim)⟩⟩

/-- Settles O14. -/
theorem mlWidthSubtracts : Obligations.MlWidthSubtracts :=
  ⟨decode_encode .mlWidth, fun _ =>
    ⟨exec_of_enabled (i := .mlWidth), exec_refused_of_not_enabled (i := .mlWidth)⟩⟩

/-- The signed reading is the one number of the 16-bit two's complement range that the value stands for modulo 65536
(R12). -/
theorem signed16_eq_of_emod {v : Tick} {x : Int} (hlow : -32768 ≤ x) (hhigh : x ≤ 32767)
    (hv : (v.toNat : Int) = x % 65536) : signed16 v = x := by
  obtain ⟨hvlow, hvhigh⟩ := signed16_bounds v
  have hmod := signed16_emod v
  omega

/-- The difference of the end and the start stamp, modulo 65536: the start tick drops out and each over-count leaves 256
(R153). -/
theorem tick_sub_toNat (start : Tick) (n ks ke : Nat) :
    (((start + BitVec.ofNat 16 n + BitVec.ofNat 16 (256 * ke)) - (start + BitVec.ofNat 16 (256 * ks))).toNat : Int) =
      ((n : Int) + 256 * ((ke : Int) - ks)) % 65536 := by
  simp only [BitVec.toNat_sub, BitVec.toNat_add, BitVec.toNat_ofNat]
  omega

/-- Settles O51: the stored difference is the width modulo 65536, and the range makes its signed reading the width. -/
theorem widthIsTheTickDifference : Obligations.WidthIsTheTickDifference := by
  intro s start n ks ke hready hcs hce hlow hhigh
  refine ⟨effect .mlWidth s, exec_of_enabled (i := .mlWidth) hready, signed16_eq_of_emod hlow hhigh ?_⟩
  have hw : (effect .mlWidth s).w = s.ce - s.cs := rfl
  rw [hw, hcs, hce, tick_sub_toNat]

end Sys2Proof.Machine
end

section
/-! The band of a width (R162, R163): the first window that holds it, or the kind of a width in none. -/

namespace Sys2Proof.Machine

/-- A band whose window holds the width is the answer where no earlier band's window does (R163). -/
theorem classifyBand_first {before after : List Band} {b : Band} {x : Int} (hb : inWindow b x = true)
    (hbefore : ∀ b' ∈ before, ¬inWindow b' x = true) : classifyBand (before ++ b :: after) x = .inBand b := by
  have hfind : (before ++ b :: after).find? (fun b => inWindow b x) = some b := by
    rw [List.find?_append, List.find?_eq_none.2 hbefore, Option.none_or, List.find?_cons_of_pos (p := fun b => inWindow b x) hb]
  rw [classifyBand, hfind]

/-- A width in no window is below the table, above it or between its windows, as all its edges say (R163). -/
theorem classifyBand_of_no_window {bands : List Band} {x : Int} (h : ∀ b ∈ bands, ¬inWindow b x = true) :
    classifyBand bands x =
      if ∀ b ∈ bands, x ≤ lowerEdge b then .out .below
      else if ∀ b ∈ bands, upperEdge b ≤ x then .out .above
      else .out .between := by
  have hlower : bands.any (fun b => decide (lowerEdge b < x)) = true ↔ ¬∀ b ∈ bands, x ≤ lowerEdge b := by simp
  have hupper : bands.any (fun b => decide (x < upperEdge b)) = true ↔ ¬∀ b ∈ bands, upperEdge b ≤ x := by simp
  rw [classifyBand, List.find?_eq_none.2 h]
  simp only [hlower, hupper, ite_not]

/-- `classify_band` always answers a band or a kind, never the empty Band value (R163: it is total). -/
theorem classifyBand_cases (bands : List Band) (x : Int) :
    (∃ b, classifyBand bands x = .inBand b) ∨ ∃ k, classifyBand bands x = .out k := by
  unfold classifyBand
  split
  · next b _ => exact .inl ⟨b, rfl⟩
  · right
    split
    · split
      · exact ⟨.between, rfl⟩
      · exact ⟨.above, rfl⟩
    · exact ⟨.below, rfl⟩

/-- A band's center is in its window where its tolerances are at least 1 (R162). -/
theorem inWindow_center {b : Band} (hl : 1 ≤ b.lowerTol) (hu : 1 ≤ b.upperTol) : inWindow b b.center = true :=
  (inWindow_iff b b.center).2 ⟨by omega, by omega⟩

/-- Settles O52. -/
theorem bandIsTheFirstWindow : Obligations.BandIsTheFirstWindow := by
  refine ⟨fun before after b x hlow hup hbefore => ?_, fun bands x _ hnone => ?_, fun b => inWindow_center⟩
  · exact classifyBand_first ((inWindow_iff b x).2 ⟨hlow, hup⟩) fun b' hb' => mt (inWindow_iff b' x).1 (hbefore b' hb')
  · rw [classifyBand_of_no_window fun b hb => mt (inWindow_iff b x).1 (hnone b hb)]
    refine ⟨fun hbelow => if_pos hbelow, fun hbelow habove => ?_, fun hbelow habove => ?_⟩
    · exact (if_neg hbelow).trans (if_pos habove)
    · exact (if_neg hbelow).trans (if_neg habove)

end Sys2Proof.Machine
end

section
/-! The duty of a width (R164 to R166): the rounded ratio, and the continuous remap as one. -/

namespace Sys2Proof.Machine

/-- Within its bounds `duty_from_mv` is a byte: no bit of the quotient is lost (R164). -/
theorem dutyFromMv_eq_some {t s : Nat} (hs : 1 ≤ s) (ht : t ≤ s) :
    ∃ d : Byte, dutyFromMv t s = some d ∧ d.toNat = (255 * t + s / 2) / s := by
  have hfits : (255 * t + s / 2) / s < 256 := (Nat.div_lt_iff_lt_mul hs).2 (by omega)
  exact ⟨_, if_pos ⟨hs, ht⟩, by rw [BitVec.toNat_ofNat, Nat.mod_eq_of_lt hfits]⟩

/-- Half the denominator, added before a floor division, puts the quotient within half a unit of the exact ratio (R164). -/
theorem roundedDiv_within_half (n : Nat) {s : Nat} (hs : 1 ≤ s) :
    2 * ((n + s / 2) / s * s) ≤ 2 * n + s ∧ 2 * n < 2 * ((n + s / 2) / s * s) + s + 1 := by
  have hfloor : (n + s / 2) / s * s ≤ n + s / 2 := Nat.div_mul_le_self ..
  have hceil : n + s / 2 < (n + s / 2) / s * s + s := Nat.lt_div_mul_add hs
  omega

/-- Settles O53. -/
theorem dutyIsTheRoundedRatio : Obligations.DutyIsTheRoundedRatio := by
  refine ⟨fun t s => ⟨fun hs ht => ?_, fun hout => if_neg hout⟩, fun c b => ⟨fun t hmv => ?_, fun d hconst => ?_⟩⟩
  · obtain ⟨d, hd, hval⟩ := dutyFromMv_eq_some hs ht
    refine ⟨d, hd, hval, ?_⟩
    rw [hval]
    exact roundedDiv_within_half (255 * t) hs
  · rw [bandDuty, hmv]
  · rw [bandDuty, hconst]

/-- A byte that is the rounded ratio is the answer (R164). -/
theorem dutyFromMv_of_quotient {t s : Nat} (hs : 1 ≤ s) (ht : t ≤ s) {d : Byte} (h : (255 * t + s / 2) / s = d.toNat) :
    dutyFromMv t s = some d := by
  rw [dutyFromMv, if_pos ⟨hs, ht⟩, h, BitVec.ofNat_toNat, BitVec.setWidth_eq]

theorem dutyFromMv_zero {s : Nat} (hs : 1 ≤ s) : dutyFromMv 0 s = some 0#8 :=
  dutyFromMv_of_quotient hs (Nat.zero_le s) (Nat.div_eq_of_lt (by omega))

theorem dutyFromMv_self {s : Nat} (hs : 1 ≤ s) : dutyFromMv s s = some 255#8 := by
  refine dutyFromMv_of_quotient hs le_rfl ?_
  rw [Nat.mul_comm, Nat.mul_add_div hs, Nat.div_eq_of_lt (by omega)]
  rfl

section
variable {c : Configuration} {x : Int}

/-- The remap scales the clamped width over the span as `duty_from_mv` scales a voltage over the supply (R164, R166). -/
theorem remap_eq_dutyFromMv (h : c.inMin < c.inMax) :
    remap c x = dutyFromMv (clampToSpan c x - c.inMin).toNat (c.inMax - c.inMin).toNat := by
  have hbounds : 1 ≤ (c.inMax - c.inMin).toNat ∧ (clampToSpan c x - c.inMin).toNat ≤ (c.inMax - c.inMin).toNat := by
    unfold clampToSpan
    omega
  rw [remap, if_pos h, dutyFromMv, if_pos hbounds, Nat.mul_comm 255]

theorem remap_of_le_inMin (h : c.inMin < c.inMax) (hx : x ≤ c.inMin) : remap c x = some 0#8 := by
  have hzero : (clampToSpan c x - c.inMin).toNat = 0 := by
    unfold clampToSpan
    omega
  rw [remap_eq_dutyFromMv h, hzero, dutyFromMv_zero (by omega)]

theorem remap_of_inMax_le (h : c.inMin < c.inMax) (hx : c.inMax ≤ x) : remap c x = some 255#8 := by
  have hfull : clampToSpan c x = c.inMax := by
    unfold clampToSpan
    omega
  rw [remap_eq_dutyFromMv h, hfull, dutyFromMv_self (by omega)]

/-- The remap of any width, as a number (R166). -/
theorem remap_eq_some (h : c.inMin < c.inMax) (x : Int) :
    ∃ d : Byte, remap c x = some d ∧
      (d.toNat : Int) = ((clampToSpan c x - c.inMin) * 255 + (c.inMax - c.inMin) / 2) / (c.inMax - c.inMin) := by
  have hlow : 0 ≤ clampToSpan c x - c.inMin := by
    unfold clampToSpan
    omega
  have hhigh : clampToSpan c x ≤ c.inMax := min_le_right ..
  rw [remap_eq_dutyFromMv h]
  obtain ⟨d, hd, hval⟩ :=
    dutyFromMv_eq_some (t := (clampToSpan c x - c.inMin).toNat) (s := (c.inMax - c.inMin).toNat) (by omega) (by omega)
  refine ⟨d, hd, ?_⟩
  rw [hval]
  push_cast [Int.toNat_of_nonneg hlow, Int.toNat_of_nonneg (show 0 ≤ c.inMax - c.inMin by omega)]
  rw [Int.mul_comm 255]

/-- Within the span nothing is clamped (R166). -/
theorem clampToSpan_of_within (hlow : c.inMin ≤ x) (hhigh : x ≤ c.inMax) : clampToSpan c x = x := by
  rw [clampToSpan, max_eq_left hlow, min_eq_left hhigh]

theorem clampToSpan_mono (c : Configuration) : Monotone (clampToSpan c) :=
  fun _ _ h => min_le_min_right _ (max_le_max_right _ h)

end

/-- Settles O54: the order is kept by the clamp, the scaling and the floor division in turn. -/
theorem remapCoversTheDutyRange : Obligations.RemapCoversTheDutyRange := by
  intro c x y h
  refine ⟨remap_of_le_inMin h, remap_of_inMax_le h, fun hlow hhigh => ?_, fun hxy => ?_⟩
  · simpa only [clampToSpan_of_within hlow hhigh] using remap_eq_some h x
  · obtain ⟨d, hd, hdval⟩ := remap_eq_some h x
    obtain ⟨e, he, heval⟩ := remap_eq_some h y
    refine ⟨d, e, hd, he, ?_⟩
    have hclamp : clampToSpan c x ≤ clampToSpan c y := clampToSpan_mono c hxy
    zify
    rw [hdval, heval]
    exact Int.ediv_le_ediv (by omega) (by omega)

end Sys2Proof.Machine
end

section
/-! ML.CLASSIFY and ML.PWMWR (R167, R168), policy by policy. -/

namespace Sys2Proof.Machine

section
variable {c : Configuration} {x : Int} {old : Byte} (hc : classifierConfigured c = true)
include hc

/-- The continuous policy (R160, R166). -/
theorem classify_continuous (hp : c.mapPolicy = .continuous) {d : Byte} (hd : remap c x = some d) :
    classify c x old = some (.none, d) := by
  simp [classify, hc, hp, hd]

/-- The banded policy, the width in a window (R165, R167). -/
theorem classify_inBand (hp : c.mapPolicy = .banded) {b : Band} (hb : classifyBand c.bands x = .inBand b) {d : Byte}
    (hd : bandDuty c b = some d) : classify c x old = some (.inBand b, d) := by
  simp [classify, hc, hp, hb, hd]

/-- The banded policy, the width in no window (R167). -/
theorem classify_out (hp : c.mapPolicy = .banded) {k : OutKind} (hk : classifyBand c.bands x = .out k) :
    classify c x old = some (.out k, old) := by
  simp [classify, hc, hp, hk]

end

/-- ML.CLASSIFY stores what the classifier answers (R167). -/
theorem exec_mlClassify_of_classify {s : State} (hready : MainReady s) {v : BandValue} {d : Byte}
    (h : classify s.cfg (signed16 s.w) s.dnew = some (v, d)) :
    exec .mlClassify s = .next { s with band := v, dnew := d, mlPhase := .pwmwr } :=
  (execMlClassify_next s _).2 ⟨hready, v, d, h, rfl⟩

/-- Settles O15, policy by policy. -/
theorem mlClassifyBandAndDuty : Obligations.MlClassifyBandAndDuty := by
  refine ⟨decode_encode .mlClassify, fun s hc => ⟨fun hready hp => ?_, fun hready hp => ?_, fun hnot => ?_⟩⟩
  · obtain ⟨-, -, -, -, hspan⟩ := (classifierConfigured_iff s.cfg).1 hc
    obtain ⟨d, hd⟩ := Option.isSome_iff_exists.1 ((remap_isSome s.cfg (signed16 s.w)).2 hspan)
    exact ⟨d, hd, exec_mlClassify_of_classify hready (classify_continuous hc hp hd)⟩
  · rcases classifyBand_cases s.cfg.bands (signed16 s.w) with ⟨b, hb⟩ | ⟨k, hk⟩
    · obtain ⟨d, hd⟩ := Option.isSome_iff_exists.1 (bandDuty_isSome hc (classifyBand_inBand hb).1)
      exact .inl ⟨b, d, hb, hd, exec_mlClassify_of_classify hready (classify_inBand hc hp hb hd)⟩
    · exact .inr ⟨k, hk, exec_mlClassify_of_classify hready (classify_out hc hp hk)⟩
  · exact exec_refused_of_not_enabled (i := .mlClassify) fun ⟨hready, _⟩ => hnot hready

/-- ML.PWMWR writes what `dutyToWrite` names, if it names a value (R168). -/
theorem exec_mlPwmwr_of_dutyToWrite {s : State} (hready : MainReady s) {o : Option Byte} (h : dutyToWrite s = o) :
    exec .mlPwmwr s = .next (writeDuty s o) :=
  (execMlPwmwr_next s _).2 ⟨hready, congrArg (writeDuty s) h.symm⟩

/-- Settles O16: a duty of the width, the default duty, or no write. -/
theorem mlPwmwrWritesOrHolds : Obligations.MlPwmwrWritesOrHolds := by
  refine ⟨decode_encode .mlPwmwr, fun s => ⟨fun hready hduty => ?_, fun hready hnone hpolicy => ?_,
    fun hready hnone hpolicy => ?_, exec_refused_of_not_enabled (i := .mlPwmwr)⟩⟩
  · exact exec_mlPwmwr_of_dutyToWrite hready (dutyToWrite_dnew hduty)
  · exact exec_mlPwmwr_of_dutyToWrite hready ((dutyToWrite_outOfRange hnone).trans (if_pos hpolicy))
  · exact exec_mlPwmwr_of_dutyToWrite hready ((dutyToWrite_outOfRange hnone).trans (if_neg (by simp [hpolicy])))

end Sys2Proof.Machine
end

section
/-! The transmitter's three operations (R181 to R183): their words, and their effect bit interval by bit interval. -/

namespace Sys2Proof.Machine

/-- The command word of TX.START is the table's base word plus the byte (R100). -/
theorem encode_txStart (d : Byte) : encode (.txStart d) = 0x3000#16 + d.setWidth 16 := by
  apply BitVec.eq_of_toNat_eq
  have hcat : (encode (.txStart d)).toNat = 256 * (0x30#8).toNat + d.toNat := composeTick_toNat 0x30#8 d
  have hsum : (0x3000#16 + d.setWidth 16).toNat = (0x3000 + d.toNat) % 65536 := by simp
  have hd := d.isLt
  rw [hcat, hsum, BitVec.toNat_ofNat]
  omega

/-- Settles O17: with a positive `BAUD` the rest of the enabling condition is the two hypotheses. -/
theorem txStartLoadsAndSendsStartBit : Obligations.TxStartLoadsAndSendsStartBit := by
  refine ⟨fun d => encode_txStart d ▸ decode_encode (.txStart d), fun d s hbaud => ⟨fun hready hallowed => ?_, fun hnot => ?_⟩⟩
  · exact exec_of_enabled (i := .txStart d) ⟨hready, hallowed, hbaud⟩
  · exact exec_refused_of_not_enabled (i := .txStart d) fun ⟨hready, hallowed, _⟩ => hnot ⟨hready, hallowed⟩

/-- The bit counter does not wrap before the stop bit (R182). -/
theorem txIdx_add_one {k : Fin 9} (h : k.val ≤ 7) : (k + 1).val = k.val + 1 :=
  Fin.val_add_one_of_lt (Fin.lt_def.2 (Nat.lt_succ_of_le h))

/-- Settles O18: the next position is `tx_idx + 1`, which does not wrap. -/
theorem txDataSendsTheNextBit : Obligations.TxDataSendsTheNextBit :=
  ⟨decode_encode .txData, fun s _ =>
    ⟨fun hready hidx => ⟨s.txIdx + 1, txIdx_add_one hidx, exec_of_enabled (i := .txData) ⟨hready, hidx⟩⟩,
      exec_refused_of_not_enabled (i := .txData)⟩⟩

/-- Settles O19. -/
theorem txStopReturnsToIdle : Obligations.TxStopReturnsToIdle :=
  ⟨decode_encode .txStop, fun _ _ =>
    ⟨fun hready hidx => exec_of_enabled (i := .txStop) ⟨hready, hidx⟩, exec_refused_of_not_enabled (i := .txStop)⟩⟩

end Sys2Proof.Machine
end

section
/-! A frame and a string of frames sent with nothing between their steps (R184, R185): the whole state they leave. -/

namespace Sys2Proof.Machine

/-- The first `n` data bits of a byte in flight, least significant first (R182). -/
theorem runOps_txData {u : State} (h : TxReady u) (hidx : u.txIdx = 0) {n : Nat} (hn : n ≤ 8) :
    ∃ (v : Level) (k : Fin 9), k.val = n ∧ runOps (List.replicate n .txData) u = .next { u with
      txd := v
      wave := u.wave ++ (List.range n).map fun j => (dataLevel u.txSr j, bitUs u.cfg)
      txIdx := k } := by
  induction n with
  | zero => exact ⟨u.txd, 0, rfl, by simp [runOps, ← hidx]⟩
  | succ n ih =>
    obtain ⟨v, k, rfl, hrun⟩ := ih (by omega)
    have hk : k.val ≤ 7 := by omega
    refine ⟨dataLevel u.txSr k, k + 1, txIdx_add_one hk, ?_⟩
    rw [List.replicate_succ', runOps_append]
    refine ⟨_, hrun, (runOps_cons ..).2 ⟨_, runOp_of_next (exec_of_enabled (i := .txData) ⟨h, hk⟩), ?_⟩⟩
    rw [List.range_succ, List.map_append, ← List.append_assoc]
    rfl

/-- The eight data bits and the stop bit of a byte in flight, and ML.REPORT's write after the stop bit (R203). -/
theorem runOps_dataBits_stopBit {u : State} (h : TxReady u) (hidx : u.txIdx = 0) :
    runOps (List.replicate 8 .txData ++ [.txStop]) u = .next (reportByteSent { u with
      wave := u.wave ++ (List.range 8).map (fun j => (dataLevel u.txSr j, bitUs u.cfg)) ++ [(true, bitUs u.cfg)]
      txd := true
      txBusy := false
      txIdx := 0 }) := by
  obtain ⟨v, k, hk, hrun⟩ := runOps_txData h hidx (n := 8) le_rfl
  rw [runOps_append]
  exact ⟨_, hrun, (runOps_cons ..).2 ⟨_, runOp_of_next (exec_of_enabled (i := .txStop) ⟨h, hk⟩), rfl⟩⟩

/-- The transmitter's part of a whole frame: the ten entries of `wave`, and the line idle again (R184). -/
def frameSent (d : Byte) (s : State) : State :=
  { s with wave := s.wave ++ frameWave s.cfg d, txd := true, txBusy := false, txIdx := 0, txSr := d }

/-- The state TXB leaves: the frame is sent, and ML.REPORT has made its writes at the frame's start and end (R184, R203). -/
def afterFrame (d : Byte) (s : State) : State := reportByteSent (reportByteStarted d (frameSent d s))

/-- The frame of the report's next byte takes it out of `line` (R203). -/
theorem reportByteStarted_of_next {d : Byte} {t : State}
    (h : t.loopState = .reporting ∧ (reportBytes t).head? = some d) :
    reportByteStarted d t = { t with line := (reportBytes t).tail, reportActive := true } :=
  if_pos h

/-- Any other frame ends the report (R203). -/
theorem reportByteStarted_of_other {d : Byte} {t : State}
    (h : ¬(t.loopState = .reporting ∧ (reportBytes t).head? = some d)) :
    reportByteStarted d t = { t with reportActive := false } :=
  if_neg h

/-- What ML.REPORT writes at a frame's start does not depend on the transmitter (R203). -/
theorem reportByteStarted_transmitter (d : Byte) (t : State) (wave : List (Level × Rat)) (txd busy : Level) (k : Fin 9) :
    reportByteStarted d { t with wave := wave, txd := txd, txBusy := busy, txIdx := k } =
      { reportByteStarted d t with wave := wave, txd := txd, txBusy := busy, txIdx := k } := by
  by_cases hnext : t.loopState = .reporting ∧ (reportBytes t).head? = some d
  · rw [reportByteStarted_of_next hnext]
    exact reportByteStarted_of_next hnext
  · rw [reportByteStarted_of_other hnext]
    exact reportByteStarted_of_other hnext

/-- TXB runs through wherever TX.START may run (R184). -/
theorem runOps_txbOps {d : Byte} {s : State} (h : Enabled s (.txStart d)) :
    runOps (txbOps d) s = .next (afterFrame d s) := by
  have hstart : runOp (.txStart d) s = .next (reportByteStarted d (effect (.txStart d) s)) :=
    runOp_of_next (exec_of_enabled h)
  obtain ⟨⟨hctx, hquiet, hrun, -⟩, -, hbaud⟩ := h
  refine (runOps_cons ..).2 ⟨_, hstart, ?_⟩
  generalize hu : reportByteStarted d (effect (.txStart d) s) = u
  have hwrites := reportByteStarted_writes d (effect (.txStart d) s)
  rw [hu] at hwrites
  have hready : TxReady u := by
    rw [hwrites]
    exact ⟨hctx, hquiet, hrun, rfl, hbaud⟩
  have hwave : u.wave ++ (List.range 8).map (fun j => (dataLevel u.txSr j, bitUs u.cfg)) ++ [(true, bitUs u.cfg)] =
      s.wave ++ frameWave s.cfg d := by
    rw [hwrites]
    simp [effect, frameWave, frameLevels, List.range_succ]
  have hframe : reportByteStarted d (frameSent d s) =
      { u with wave := s.wave ++ frameWave s.cfg d, txd := true, txBusy := false, txIdx := 0 } :=
    hu ▸ reportByteStarted_transmitter d (effect (.txStart d) s) _ _ _ _
  rw [afterFrame, hframe, ← hwave]
  exact runOps_dataBits_stopBit hready (hwrites ▸ rfl)

/-- Beside the frame, TXB leaves only what ML.REPORT writes (R184, R203). -/
theorem afterFrame_eq (d : Byte) (s : State) :
    afterFrame d s = { frameSent d s with
      line := (afterFrame d s).line
      mlPhase := (afterFrame d s).mlPhase
      reportActive := (afterFrame d s).reportActive } := by
  rw [afterFrame, reportByteSent_writes, reportByteStarted_writes]

/-- Outside ML.REPORT no operation begins one (R203). -/
theorem inReport_reportProgress {t : State} (h : inReport t = false) (i : Instr) : inReport (reportProgress i t) = false := by
  by_cases hl : t.loopState = .reporting
  · have hactive : t.reportActive = false := by
      simp only [inReport, hl, decide_true, Bool.true_and, Bool.or_eq_false_iff] at h
      exact h.1
    rwa [reportProgress_of_idle h hactive]
  · rw [reportProgress_of_not_inReport h]
    simp [inReport, hl]

/-- Outside ML.REPORT a frame leaves `line` and `ml_phase` as they were, and begins no report (R203). -/
theorem afterFrame_of_not_inReport (d : Byte) {s : State} (h : inReport s = false) :
    (afterFrame d s).line = s.line ∧ (afterFrame d s).mlPhase = s.mlPhase ∧ inReport (afterFrame d s) = false := by
  have hsent : inReport (frameSent d s) = false := h
  have hstarted : inReport (reportProgress (.txStart d) (frameSent d s)) = false := inReport_reportProgress hsent _
  have hafter : afterFrame d s = reportProgress .txStop (reportProgress (.txStart d) (frameSent d s)) := rfl
  refine ⟨?_, ?_, hafter ▸ inReport_reportProgress hstarted .txStop⟩
  all_goals
    rw [hafter, reportProgress_of_not_inReport hstarted, reportProgress_of_not_inReport hsent]
    rfl

/-- Settles O55: the state TXB leaves is the frame's, with ML.REPORT's writes. -/
theorem frameOnTheWire : Obligations.FrameOnTheWire := by
  intro d s hready hallowed hbaud
  refine ⟨afterFrame d s, runOps_txbOps ⟨hready, hallowed, hbaud⟩, afterFrame_eq d s, fun hout => ?_⟩
  obtain ⟨hline, hphase, -⟩ := afterFrame_of_not_inReport d hout
  exact ⟨hline, hphase⟩

/-- The state PRINT leaves: frame after frame (R185). -/
def afterPrint : List Byte → State → State
  | [], s => s
  | d :: ds, s => afterPrint ds (afterFrame d s)

/-- After a frame the next may start at once (R185). -/
theorem enabled_txStart_afterFrame {d : Byte} {s : State} (h : Enabled s (.txStart d)) (e : Byte) :
    Enabled (afterFrame d s) (.txStart e) := by
  obtain ⟨⟨hctx, hquiet, hrun, -⟩, hallowed, hbaud⟩ := h
  rw [afterFrame_eq]
  exact ⟨⟨hctx, hquiet, hrun, rfl⟩, hallowed, hbaud⟩

/-- PRINT runs through wherever TX.START may run (R185). -/
theorem runOps_printOps (ds : List Byte) {s : State} (h : ∀ d, Enabled s (.txStart d)) :
    runOps (printOps ds) s = .next (afterPrint ds s) := by
  induction ds generalizing s with
  | nil => rfl
  | cons d ds ih => exact (runOps_append ..).2 ⟨_, runOps_txbOps (h d), ih (enabled_txStart_afterFrame (h d))⟩

/-- PRINT appends the frames of its bytes in order (R185). -/
theorem afterPrint_wave (ds : List Byte) (s : State) : (afterPrint ds s).wave = s.wave ++ printWave s.cfg ds := by
  induction ds generalizing s with
  | nil => exact (List.append_nil _).symm
  | cons d ds ih =>
    calc (afterPrint ds (afterFrame d s)).wave
      _ = (afterFrame d s).wave ++ printWave (afterFrame d s).cfg ds := ih _
      _ = s.wave ++ frameWave s.cfg d ++ printWave s.cfg ds := by rw [afterFrame_eq]; rfl
      _ = s.wave ++ printWave s.cfg (d :: ds) := List.append_assoc ..

/-- PRINT of some bytes leaves the line idle at the first bit position (R183, R185). -/
theorem afterPrint_idle {ds : List Byte} (h : ds ≠ []) (s : State) :
    (afterPrint ds s).txd = true ∧ (afterPrint ds s).txIdx = 0 := by
  induction ds generalizing s with
  | nil => exact absurd rfl h
  | cons d ds ih =>
    rw [afterPrint]
    cases ds with
    | nil =>
      rw [afterPrint, afterFrame_eq]
      exact ⟨rfl, rfl⟩
    | cons e es => exact ih (List.cons_ne_nil e es) _

/-- PRINT changes `wave`, the transmitter's fields and what ML.REPORT writes, and keeps the last byte in `tx_sr` (R185). -/
theorem afterPrint_eq (ds : List Byte) {s : State} (h : s.txBusy = false) :
    afterPrint ds s = { s with
      wave := (afterPrint ds s).wave
      txSr := ds.getLastD s.txSr
      txIdx := (afterPrint ds s).txIdx
      txd := (afterPrint ds s).txd
      line := (afterPrint ds s).line
      mlPhase := (afterPrint ds s).mlPhase
      reportActive := (afterPrint ds s).reportActive } := by
  induction ds generalizing s with
  | nil => rfl
  | cons d ds ih =>
    have hframe := afterFrame_eq d s
    have hidle : (afterFrame d s).txBusy = false := hframe ▸ rfl
    rw [afterPrint, List.getLastD_cons]
    generalize afterFrame d s = u at hframe hidle ⊢
    specialize ih hidle
    generalize afterPrint ds u = t at ih ⊢
    rw [ih, hframe, h]
    rfl

/-- Outside ML.REPORT PRINT leaves `line` and `ml_phase` as they were (R203). -/
theorem afterPrint_of_not_inReport (ds : List Byte) {s : State} (h : inReport s = false) :
    (afterPrint ds s).line = s.line ∧ (afterPrint ds s).mlPhase = s.mlPhase := by
  induction ds generalizing s with
  | nil => exact ⟨rfl, rfl⟩
  | cons d ds ih =>
    obtain ⟨hline, hphase, hout⟩ := afterFrame_of_not_inReport d h
    rw [← hline, ← hphase]
    exact ih hout

/-- Settles O56, by induction on the string in each of the lemmas it cites. -/
theorem printSendsFramesInOrder : Obligations.PrintSendsFramesInOrder := by
  intro ds s hready hallowed hbaud
  have ⟨_, _, _, hbusy⟩ := hready
  refine ⟨afterPrint ds s, runOps_printOps ds fun _ => ⟨hready, hallowed, hbaud⟩, afterPrint_wave ds s, ?_,
    fun hne => afterPrint_idle hne s, afterPrint_eq ds hbusy, afterPrint_of_not_inReport ds⟩
  rintro rfl
  rfl

end Sys2Proof.Machine
end

section
/-! What an observer of the line reads (R186): the bytes, interval by interval, and the merged waveform. -/

namespace Sys2Proof.Machine

/-- `BIT_US` is the exact rational (R10, R280). -/
theorem bitUs_mul_baud {c : Configuration} (h : 1 ≤ c.baud) : bitUs c * (c.baud : Rat) = 1000000 := by
  have hbaud : (c.baud : Rat) ≠ 0 := Nat.cast_ne_zero.2 (by omega)
  rw [bitUs, Rat.mkRat_eq_div]
  exact div_mul_cancel₀ _ hbaud

/-- The eight data levels of a byte give it back (R86). -/
theorem byteOfLevels_dataLevel (d : Byte) :
    byteOfLevels (dataLevel d 0) (dataLevel d 1) (dataLevel d 2) (dataLevel d 3) (dataLevel d 4) (dataLevel d 5)
      (dataLevel d 6) (dataLevel d 7) = d := by
  refine BitVec.eq_of_getLsbD_eq fun k hk => ?_
  simp only [byteOfLevels, dataLevel, BitVec.getLsbD_append]
  interval_cases k <;> simp

/-- A frame is received as its byte, whatever follows (R186). -/
theorem receive_frameLevels (d : Byte) (ls : List Level) :
    receive (frameLevels d ++ ls) = (receive ls).map fun ds => d :: ds := by
  simp only [frameLevels, List.cons_append, List.nil_append, receive, byteOfLevels_dataLevel]

theorem printWave_cons_levels (c : Configuration) (d : Byte) (ds : List Byte) :
    (printWave c (d :: ds)).map Prod.fst = frameLevels d ++ (printWave c ds).map Prod.fst := by
  simp [printWave, frameWave, Function.comp_def]

/-- A string is received as its bytes (R186). -/
theorem receive_printWave (c : Configuration) (ds : List Byte) : receive ((printWave c ds).map Prod.fst) = some ds := by
  induction ds with
  | nil => rfl
  | cons d ds ih => rw [printWave_cons_levels, receive_frameLevels, ih, Option.map_some]

/-- The frames of a string last ten bit intervals for each byte (R281). -/
theorem printWave_duration (c : Configuration) (ds : List Byte) :
    ((printWave c ds).map Prod.snd).sum = 10 * (ds.length : Rat) * bitUs c := by
  induction ds with
  | nil => simp [printWave]
  | cons d ds ih =>
    have hframe : ((frameWave c d).map Prod.snd).sum = 10 * bitUs c := by
      simp [frameWave, frameLevels]
      ring
    rw [printWave, List.map_append, List.sum_append, hframe, ih, List.length_cons]
    push_cast
    ring

section
variable {v v' : Level} {t t' : Rat} {rest more : List (Level × Rat)}

theorem waveform_cons_of_nil (h : waveform rest = []) : waveform ((v, t) :: rest) = [(v, t)] := by
  simp [waveform, h]

theorem waveform_cons_of_same (h : waveform rest = (v, t') :: more) :
    waveform ((v, t) :: rest) = (v, t + t') :: more := by
  simp [waveform, h]

theorem waveform_cons_of_ne (h : waveform rest = (v', t') :: more) (hne : v ≠ v') :
    waveform ((v, t) :: rest) = (v, t) :: (v', t') :: more := by
  simp [waveform, h, hne]

end

/-- What is before an entry: nothing, an interval of the same level, which it lengthens, or one of the other level. -/
theorem waveform_tail_cases (v : Level) (rest : List (Level × Rat)) :
    waveform rest = [] ∨ (∃ t' more, waveform rest = (v, t') :: more) ∨
      ∃ v' t' more, v ≠ v' ∧ waveform rest = (v', t') :: more := by
  match waveform rest with
  | [] => exact .inl rfl
  | (v', t') :: more =>
    by_cases h : v = v'
    · exact .inr (.inl ⟨t', more, by rw [h]⟩)
    · exact .inr (.inr ⟨v', t', more, h, rfl⟩)

/-- The waveform begins at the level of the first entry (R186). -/
theorem waveform_cons_head (v : Level) (t : Rat) (rest : List (Level × Rat)) :
    ∃ t' more, waveform ((v, t) :: rest) = (v, t') :: more := by
  rcases waveform_tail_cases v rest with h | ⟨t', more, h⟩ | ⟨v', t', more, hne, h⟩
  · exact ⟨_, _, waveform_cons_of_nil h⟩
  · exact ⟨_, _, waveform_cons_of_same h⟩
  · exact ⟨_, _, waveform_cons_of_ne h hne⟩

/-- Merging keeps the whole duration (R186). -/
theorem waveform_duration (wave : List (Level × Rat)) :
    ((waveform wave).map Prod.snd).sum = (wave.map Prod.snd).sum := by
  induction wave with
  | nil => rfl
  | cons e rest ih =>
    obtain ⟨v, t⟩ := e
    rw [List.map_cons, List.sum_cons, ← ih]
    rcases waveform_tail_cases v rest with h | ⟨t', more, h⟩ | ⟨v', t', more, hne, h⟩
    · rw [waveform_cons_of_nil h, h]
      simp
    · rw [waveform_cons_of_same h, h]
      simp [add_assoc]
    · rw [waveform_cons_of_ne h hne, h]
      simp

/-- Two consecutive entries of equal level are one entry of their joint duration (R186). -/
theorem waveform_merge (v : Level) (t u : Rat) (rest : List (Level × Rat)) :
    waveform ((v, t) :: (v, u) :: rest) = waveform ((v, t + u) :: rest) := by
  rcases waveform_tail_cases v rest with h | ⟨t', more, h⟩ | ⟨v', t', more, hne, h⟩
  · rw [waveform_cons_of_same (waveform_cons_of_nil h), waveform_cons_of_nil h]
  · rw [waveform_cons_of_same (waveform_cons_of_same h), waveform_cons_of_same h, add_assoc]
  · rw [waveform_cons_of_same (waveform_cons_of_ne h hne), waveform_cons_of_ne h hne]

/-- Entries of different level stay apart (R186). -/
theorem waveform_split {v v' : Level} (hne : v ≠ v') (t u : Rat) (rest : List (Level × Rat)) :
    waveform ((v, t) :: (v', u) :: rest) = (v, t) :: waveform ((v', u) :: rest) := by
  obtain ⟨t', more, h⟩ := waveform_cons_head v' u rest
  rw [waveform_cons_of_ne h hne, h]

/-- Neighbouring intervals of the waveform have different levels (R186). -/
theorem waveform_isChain (wave : List (Level × Rat)) : (waveform wave).IsChain fun e e' => e.1 ≠ e'.1 := by
  induction wave with
  | nil => exact .nil
  | cons e rest ih =>
    obtain ⟨v, t⟩ := e
    rcases waveform_tail_cases v rest with h | ⟨t', more, h⟩ | ⟨v', t', more, hne, h⟩
    · rw [waveform_cons_of_nil h]
      exact .singleton _
    · rw [waveform_cons_of_same h]
      rw [h] at ih
      cases ih with
      | singleton => exact .singleton _
      | cons_cons hne hmore => exact .cons_cons hne hmore
    · rw [waveform_cons_of_ne h hne]
      exact .cons_cons hne (h ▸ ih)

/-- Settles O57: merging keeps the duration of the frames, and a chain of unequal neighbours has none equal. -/
theorem receiverRecoversTheBytes : Obligations.ReceiverRecoversTheBytes := by
  refine ⟨fun c => bitUs_mul_baud, fun c ds => ⟨receive_printWave c ds, ?_⟩, rfl, fun v t => rfl, waveform_merge,
    fun v v' t u rest hne => waveform_split hne t u rest, fun wave before after v v' t u h => ?_⟩
  · rw [waveform_duration, printWave_duration]
  · have hchain := waveform_isChain wave
    rw [h] at hchain
    exact (List.isChain_cons_cons.1 (List.isChain_append.1 hchain).2.1).1

end Sys2Proof.Machine
end

section
/-! The main loop's operations one by one (R201, R202, R204 to R207): an enabled one answers its `effect`, any other is
refused. -/

namespace Sys2Proof.Machine

/-- ML.POLL that finds the Ready Signal set goes on to SUSPEND (R201). -/
theorem effect_mlPoll_of_ready {s : State} (h : s.ready = true) :
    effect .mlPoll s = { s with r := true, mlPhase := .suspend } := by
  simp [effect, h]

/-- ML.POLL that finds it clear polls again (R201). -/
theorem effect_mlPoll_of_not_ready {s : State} (h : s.ready = false) :
    effect .mlPoll s = { s with r := false, mlPhase := .poll } := by
  simp [effect, h]

/-- Settles O20, by the two levels `ready` can have. -/
theorem mlPollObservesReady : Obligations.MlPollObservesReady := by
  refine ⟨decode_encode .mlPoll, fun s => ⟨fun hready hidle hset => ?_, fun hready hidle hclear => ?_,
    exec_refused_of_not_enabled (i := .mlPoll)⟩⟩
  · rw [← effect_mlPoll_of_ready hset]
    exact exec_of_enabled ⟨hready, hidle⟩
  · rw [← effect_mlPoll_of_not_ready hclear]
    exact exec_of_enabled ⟨hready, hidle⟩

/-- Settles O21. -/
theorem mlSuspendHoldsDelivery : Obligations.MlSuspendHoldsDelivery :=
  ⟨decode_encode .mlSuspend, fun _ =>
    ⟨fun hready hidle hie hr => exec_of_enabled (i := .mlSuspend) ⟨hready, hidle, hie, hr⟩,
      exec_refused_of_not_enabled (i := .mlSuspend)⟩⟩

/-- Settles O22. -/
theorem mlClrrdyClearsReady : Obligations.MlClrrdyClearsReady :=
  ⟨decode_encode .mlClrrdy, fun _ =>
    ⟨fun hready hie => exec_of_enabled (i := .mlClrrdy) ⟨hready, hie⟩, exec_refused_of_not_enabled (i := .mlClrrdy)⟩⟩

/-- Settles O23. -/
theorem mlResumeEnablesDelivery : Obligations.MlResumeEnablesDelivery :=
  ⟨decode_encode .mlResume, fun _ =>
    ⟨fun hready hl => exec_of_enabled (i := .mlResume) ⟨hready, hl⟩, exec_refused_of_not_enabled (i := .mlResume)⟩⟩

/-- Settles O24. -/
theorem criticalSectionAcquireRelease : Obligations.CriticalSectionAcquireRelease :=
  ⟨decode_encode .csEnter, decode_encode .csLeave, fun _ =>
    ⟨fun hready hidle hie => exec_of_enabled (i := .csEnter) ⟨hready, hidle, hie⟩,
      fun hready hidle hie => exec_of_enabled (i := .csLeave) ⟨hready, hidle, hie⟩,
      exec_refused_of_not_enabled (i := .csEnter), exec_refused_of_not_enabled (i := .csLeave)⟩⟩

end Sys2Proof.Machine
end

section
/-! The position of the canonical loop (R208) along its own turns, ML.REPORT and what the outside world does between them. -/

namespace Sys2Proof.Machine

/-- The fields the position invariant speaks of. -/
def positionFields (s : State) : Level × LoopState × MlPhase × Level × BootPhase × Ctx × Level × Bool :=
  (s.txBusy, s.loopState, s.mlPhase, s.r, s.bootPhase, s.ctx, s.ie, s.reportActive)

/-- The position invariant passes to every state with the same position fields. -/
theorem LoopInv.of_positionFields {s t : State} (hs : LoopInv s) (h : positionFields t = positionFields s) :
    LoopInv t := by
  simp only [positionFields, Prod.mk.injEq] at h
  obtain ⟨hbusy, hloop, hphase, hr, hboot, hctx, hie, hactive⟩ := h
  constructor
  · rw [hbusy, hloop, hphase]; exact hs.sending
  · rw [hloop, hphase]; exact hs.position
  · rw [hphase, hr]; exact hs.observed
  · rw [hboot, hphase]; exact hs.booting
  · rw [hloop, hctx, hboot, hie]; exact hs.delivering
  · rw [hactive, hloop, hphase]; exact hs.reporting

/-- In IDLE with nothing sent the loop is at POLL, or at SUSPEND with the Ready Signal observed, and delivery is on. -/
theorem loopInv_of_idle {s : State} (hidle : s.loopState = .idle)
    (hphase : s.mlPhase = .poll ∨ s.mlPhase = .suspend ∧ s.r = true) (hrun : s.bootPhase = .run) (hie : s.ie = true)
    (hbusy : s.txBusy = false) (hactive : s.reportActive = false) : LoopInv s where
  sending h := by simp [hbusy] at h
  position := iff_of_true hidle (hphase.imp_right And.left)
  observed h := by simpa [h] using hphase
  booting h := absurd hrun h
  delivering _ _ _ := hie
  reporting h := by simp [hactive] at h

/-- At REPORT in REPORTING the loop may be anywhere in ML.REPORT. -/
theorem loopInv_of_report {s : State} (hl : s.loopState = .reporting) (hphase : s.mlPhase = .report)
    (hrun : s.bootPhase = .run) : LoopInv s where
  sending _ := ⟨hl, hphase⟩
  position := by simp [hl, hphase]
  observed h := by simp [hphase] at h
  booting h := absurd hrun h
  delivering h := by simp [hl] at h
  reporting _ := ⟨hl, hphase⟩

/-- In REPORTING with nothing sent the loop may be at any phase from CLAIM to RESUME. -/
theorem loopInv_of_suspended {s : State} (hl : s.loopState = .reporting) (hpoll : s.mlPhase ≠ .poll)
    (hsuspend : s.mlPhase ≠ .suspend) (hrun : s.bootPhase = .run) (hbusy : s.txBusy = false)
    (hactive : s.reportActive = false) : LoopInv s where
  sending h := by simp [hbusy] at h
  position := by simp [hl, hpoll, hsuspend]
  observed h := absurd h hsuspend
  booting h := absurd hrun h
  delivering h := by simp [hl] at h
  reporting h := by simp [hactive] at h

/-- Past SUSPEND the loop is in REPORTING (R202, R208). -/
theorem LoopInv.reporting_of_phase {s : State} (hs : LoopInv s) (hpoll : s.mlPhase ≠ .poll)
    (hsuspend : s.mlPhase ≠ .suspend) : s.loopState = .reporting := by
  cases hl : s.loopState with
  | reporting => rfl
  | idle => exact (hs.position.1 hl).elim (absurd · hpoll) (absurd · hsuspend)

/-- RESET puts the loop before its first POLL from any state (R250). -/
theorem loopInv_powerOn (s : State) : LoopInv (powerOn s) := by
  constructor <;> simp

/-- Where the canonical loop takes an operation (R208): a command of the loop at its own phase, TX.START at REPORT, the
critical section nowhere. What is no command of the loop is bound to no phase. -/
def AtPlace (s : State) : Instr → Prop
  | .mlPoll => s.mlPhase = .poll
  | .mlSuspend => s.mlPhase = .suspend
  | .mlClaim => s.mlPhase = .claim
  | .mlWidth => s.mlPhase = .width
  | .mlClassify => s.mlPhase = .classify
  | .mlPwmwr => s.mlPhase = .pwmwr
  | .txStart _ => s.mlPhase = .report
  | .mlClrrdy => s.mlPhase = .clrrdy
  | .mlResume => s.mlPhase = .resume
  | .csEnter | .csLeave => False
  | _ => True

/-- The operation `ml_phase` names is at its place (R208). -/
theorem atPlace_of_loopOp {s : State} {i : Instr} (h : loopOp s = .ok i) : AtPlace s i := by
  unfold loopOp at h
  cases hphase : s.mlPhase with
  | report =>
    simp only [hphase] at h
    split at h
    · cases h; exact hphase
    · cases h
  | _ =>
    simp only [hphase] at h
    cases h; exact hphase

/-- A canonical turn takes an operation at its place (R208). -/
theorem atPlace_of_canonicalOp {s : State} {i : Instr} (h : canonicalOp s = .ok i) : AtPlace s i := by
  unfold canonicalOp at h
  split at h
  · cases h
    rcases dispatchOp_eq s with hd | hd <;> exact hd ▸ trivial
  · split at h
    · cases h; cases s.ecPhase <;> trivial
    · cases h; trivial
    · cases h; trivial
    · split at h
      · cases h; split <;> trivial
      · exact atPlace_of_loopOp h

/-- An enabled operation at its place, with ML.REPORT's own writes, keeps the position of the loop. -/
theorem loopInv_of_atPlace {i : Instr} {s : State} (hs : LoopInv s) (he : Enabled s i) (hplace : AtPlace s i) :
    LoopInv (reportProgress i (effect i s)) := by
  cases i with
  | reset => exact loopInv_powerOn s
  | tick | pin v | ovfIsr | nowRdlo | nowRdhi | ecRdpin | ecStore | txData => exact hs.of_positionFields rfl
  | ecEnter => exact { hs with delivering := fun _ hctx => nomatch hctx }
  | nowSei | nowCli =>
    obtain ⟨hedge, -, -⟩ := he
    exact { hs with delivering := fun _ hctx => nomatch hedge.symm.trans hctx }
  | ecRet => exact { hs with delivering := fun _ _ _ => rfl }
  | mlClaim | mlClassify | mlClrrdy =>
    obtain ⟨⟨-, -, hrun, hbusy⟩, -⟩ := he
    have hphase : s.mlPhase = _ := hplace
    have hl := hs.reporting_of_phase (by simp [hphase]) (by simp [hphase])
    exact loopInv_of_suspended hl nofun nofun hrun hbusy rfl
  | mlWidth | mlPwmwr =>
    obtain ⟨-, -, hrun, hbusy⟩ := he
    have hphase : s.mlPhase = _ := hplace
    have hl := hs.reporting_of_phase (by simp [hphase]) (by simp [hphase])
    exact loopInv_of_suspended hl nofun nofun hrun hbusy rfl
  | txStart d =>
    obtain ⟨⟨-, -, hrun, -⟩, -, -⟩ := he
    have hphase : s.mlPhase = .report := hplace
    have hl := hs.reporting_of_phase (by simp [hphase]) (by simp [hphase])
    rw [reportProgress, reportByteStarted_writes]
    exact loopInv_of_report hl hphase hrun
  | txStop =>
    obtain ⟨⟨-, -, hrun, hbusy, -⟩, -⟩ := he
    obtain ⟨hl, hphase⟩ := hs.sending hbusy
    simp only [reportProgress, reportByteSent]
    split
    · exact loopInv_of_suspended hl nofun nofun hrun rfl rfl
    · exact loopInv_of_report hl hphase hrun
  | mlPoll =>
    obtain ⟨⟨hctx, -, hrun, hbusy⟩, hidle⟩ := he
    refine loopInv_of_idle hidle ?_ hrun (hs.delivering hidle hctx hrun) hbusy rfl
    cases hready : s.ready <;> simp [reportProgress, effect, hready]
  | mlSuspend =>
    obtain ⟨⟨-, -, hrun, hbusy⟩, -⟩ := he
    exact loopInv_of_suspended rfl nofun nofun hrun hbusy rfl
  | mlResume =>
    obtain ⟨⟨-, -, hrun, hbusy⟩, -⟩ := he
    exact loopInv_of_idle rfl (.inl rfl) hrun rfl hbusy rfl
  | csEnter | csLeave => exact hplace.elim
  | bootMode m =>
    obtain ⟨hboot, -, -, -⟩ := he
    have hpoll : s.mlPhase = .poll := hs.booting (by simp [hboot])
    exact { hs with
      booting := fun _ => hpoll
      delivering := fun _ _ hrun => nomatch hrun
      reporting := fun hactive => nomatch hactive }
  | bootStart =>
    obtain ⟨hboot, -, -, hbusy⟩ := he
    have hpoll : s.mlPhase = .poll := hs.booting (by simp [hboot])
    exact loopInv_of_idle (hs.position.2 (.inl hpoll)) (.inl rfl) rfl rfl hbusy rfl

/-- An operation at its place, as a step takes it, keeps the position of the loop. -/
theorem loopInv_runOp {i : Instr} {s t : State} (hs : LoopInv s) (hplace : AtPlace s i) (h : runOp i s = .next t) :
    LoopInv t := by
  obtain ⟨he, rfl⟩ := (runOp_eq_next_iff i s t).1 h
  exact loopInv_of_atPlace hs he hplace

/-- RESET, the outside world and the counter are bound to no phase. -/
theorem atPlace_of_input {i : Instr} (h : isInput i = true ∨ i = .reset) (s : State) : AtPlace s i := by
  rcases h with h | rfl
  · cases i with
    | tick | pin v => trivial
    | _ => exact nomatch h
  · trivial

/-- A canonical turn keeps the position of the loop; a free value drawn is no part of it. -/
theorem loopInv_canonicalTurn {s t : State} (hs : LoopInv s) (h : canonicalTurn s = .next t) : LoopInv t := by
  unfold canonicalTurn at h
  split at h
  · next i hi =>
    have hplace := atPlace_of_canonicalOp hi
    split at h
    · exact loopInv_runOp (s := { s with draws := s.draws + 1 }) (hs.of_positionFields rfl) hplace h
    · exact loopInv_runOp hs hplace h
  · cases h

/-- Settles O33: every operation taken is at its place, and ML.REPORT's first element stays at REPORT. -/
theorem canonicalLoopKeepsItsPosition : Obligations.CanonicalLoopKeepsItsPosition := by
  refine fun s t _ hs => ⟨loopInv_canonicalTurn hs, fun hphase h => ?_, fun i hi => loopInv_runOp hs (atPlace_of_input hi s)⟩
  obtain ⟨⟨⟨-, -, hrun, -⟩, hl⟩, rfl⟩ := (mlReport_next s t).1 h
  exact loopInv_of_report hl hphase hrun

end Sys2Proof.Machine
end

section
/-! Guards in two parts, and canonical turns (R222, R208): what they take in a booted main context, and turns in sequence. -/

namespace Sys2Proof.Machine

/-- Checks that do not hold decide nothing (R222). -/
theorem guarded_append_of_clear {cs : List Check} (h : Clear cs) (ds : List Check) (k : Answer) :
    guarded (cs ++ ds) k = guarded ds k := by
  induction cs with
  | nil => rfl
  | cons c cs ih =>
    obtain ⟨blocks, reason⟩ := c
    obtain ⟨rfl, hcs⟩ := (clear_cons ..).1 h
    exact ih hcs

/-- Where a main-context operation may run, a canonical turn takes the loop's own (R229). -/
theorem canonicalOp_of_mainReady {s : State} (h : MainReady s) : canonicalOp s = loopOp s := by
  obtain ⟨hctx, hquiet, hrun, hbusy⟩ := h
  simp [canonicalOp, hquiet, hctx, hrun, hbusy]

/-- While a byte is in flight, a canonical turn takes the next TX step (R229). -/
theorem canonicalOp_of_txReady {s : State} (h : TxReady s) :
    canonicalOp s = .ok (if s.txIdx.val = 8 then .txStop else .txData) := by
  obtain ⟨hctx, hquiet, hrun, hbusy, -⟩ := h
  simp [canonicalOp, hquiet, hctx, hrun, hbusy]

/-- At REPORT in REPORTING the loop's own operation starts the report's next byte (R203). -/
theorem loopOp_of_reportBytes {d : Byte} {ds : List Byte} {s : State} (hphase : s.mlPhase = .report)
    (hl : s.loopState = .reporting) (hbytes : reportBytes s = d :: ds) : loopOp s = .ok (.txStart d) := by
  simp [loopOp, hphase, hl, hbytes]

/-- At REPORT in IDLE the loop has no operation (R222). -/
theorem loopOp_of_idle {s : State} (hphase : s.mlPhase = .report) (hidle : s.loopState = .idle) :
    loopOp s = .error .notReporting := by
  simp [loopOp, hphase, hidle]

/-- While delivery is off the dispatcher has no choice, and a canonical turn is its operation (R227). -/
theorem canonicalTurn_of_ok {i : Instr} {s : State} (hie : s.ie = false) (h : canonicalOp s = .ok i) :
    canonicalTurn s = runOp i s := by
  simp [canonicalTurn, h, choiceOpen, overflowDispatchable, hie]

/-- Canonical turns run when the first and then the rest run. -/
theorem canonicalTurns_succ (n : Nat) (s t : State) :
    canonicalTurns (n + 1) s = .next t ↔ ∃ u, canonicalTurn s = .next u ∧ canonicalTurns n u = .next t := by
  simp only [canonicalTurns]
  cases canonicalTurn s with
  | next u => simp
  | fault f => cases f
  | refused r => simp

/-- Canonical turns in two parts. -/
theorem canonicalTurns_add {m n : Nat} {s u t : State} (hm : canonicalTurns m s = .next u)
    (hn : canonicalTurns n u = .next t) : canonicalTurns (m + n) s = .next t := by
  induction m generalizing s with
  | zero =>
    cases hm
    rwa [Nat.zero_add]
  | succ m ih =>
    obtain ⟨v, hfirst, hrest⟩ := (canonicalTurns_succ ..).1 hm
    rw [Nat.succ_add]
    exact (canonicalTurns_succ ..).2 ⟨v, hfirst, ih hrest⟩

end Sys2Proof.Machine
end

section
/-! ML.REPORT (R203): what PRINT of the line leaves, and that the canonical loop sends it bit interval by bit interval. -/

namespace Sys2Proof.Machine

/-- The state a whole report leaves: the frames of the line, whose last byte is LF, and the loop at CLRRDY (R203). -/
def reportSent (s : State) : State :=
  { s with
    wave := s.wave ++ printWave s.cfg (lineOf s), line := [], mlPhase := .clrrdy, reportActive := false, txd := true
    txIdx := 0, txSr := 0x0A#8 }

theorem lineOf_ne_nil (s : State) : lineOf s ≠ [] := List.cons_ne_nil _ _

/-- The line ends with LF (R87). -/
theorem lineOf_getLastD (s : State) (d : Byte) : (lineOf s).getLastD d = 0x0A#8 := by
  rw [lineOf, diagnosticLine_eq, List.getLastD_eq_getLast?, List.getLast?_append]
  rfl

/-- Once ML.REPORT has begun, what is left of the line is what it still sends (R203). -/
theorem reportBytes_of_active {s : State} (hactive : s.reportActive = true) (hline : s.line ≠ []) :
    reportBytes s = s.line := by
  simp [reportBytes, hactive, hline]

/-- At REPORT with no report under way, or the whole line still to send, the report is the whole line (R203, log 13). -/
theorem reportBytes_at_report {s : State} (hphase : s.mlPhase = .report)
    (hline : s.reportActive = true → s.line = lineOf s) : reportBytes s = lineOf s := by
  cases hactive : s.reportActive with
  | true =>
    have hwhole := hline hactive
    rw [reportBytes_of_active hactive (hwhole ▸ lineOf_ne_nil s), hwhole]
  | false => simp [reportBytes, hactive, hphase]

/-- The frame of the report's next byte takes it out of `line`, and after the last the loop is at CLRRDY (R203). -/
theorem afterFrame_of_next {d : Byte} {ds : List Byte} {s : State} (hl : s.loopState = .reporting)
    (hbytes : reportBytes s = d :: ds) :
    afterFrame d s = reportByteSent { frameSent d s with line := ds, reportActive := true } := by
  have hsent : reportBytes (frameSent d s) = d :: ds := hbytes
  rw [afterFrame, reportByteStarted_of_next (t := frameSent d s) ⟨hl, by rw [hsent]; rfl⟩, hsent]
  rfl

/-- The last frame of a report ends it (R203). -/
theorem afterFrame_of_last {d : Byte} {s : State} (hl : s.loopState = .reporting) (hbytes : reportBytes s = [d]) :
    afterFrame d s = { frameSent d s with line := [], mlPhase := .clrrdy, reportActive := false } :=
  (afterFrame_of_next hl hbytes).trans (if_pos ⟨hl, rfl, rfl⟩)

/-- Any earlier frame leaves the loop at its phase with the rest of the line to send (R203). -/
theorem afterFrame_of_more {d e : Byte} {es : List Byte} {s : State} (hl : s.loopState = .reporting)
    (hbytes : reportBytes s = d :: e :: es) :
    afterFrame d s = { frameSent d s with line := e :: es, reportActive := true } :=
  (afterFrame_of_next hl hbytes).trans (if_neg fun ⟨_, _, hline⟩ => nomatch hline)

theorem reportBytes_afterFrame {d e : Byte} {es : List Byte} {s : State} (hl : s.loopState = .reporting)
    (hbytes : reportBytes s = d :: e :: es) : reportBytes (afterFrame d s) = e :: es := by
  rw [afterFrame_of_more hl hbytes]
  exact reportBytes_of_active rfl (List.cons_ne_nil e es)

theorem afterFrame_loopState (d : Byte) (s : State) : (afterFrame d s).loopState = s.loopState := by
  rw [afterFrame_eq]
  rfl

/-- PRINT of the bytes of a report ends it: `line` is empty and the loop at CLRRDY (R203). -/
theorem afterPrint_reportBytes {ds : List Byte} {s : State} (hne : ds ≠ []) (hl : s.loopState = .reporting)
    (hbytes : reportBytes s = ds) :
    (afterPrint ds s).line = [] ∧ (afterPrint ds s).mlPhase = .clrrdy ∧ (afterPrint ds s).reportActive = false := by
  induction ds generalizing s with
  | nil => exact absurd rfl hne
  | cons d ds ih =>
    rw [afterPrint]
    cases ds with
    | nil =>
      rw [afterPrint, afterFrame_of_last hl hbytes]
      exact ⟨rfl, rfl, rfl⟩
    | cons e es =>
      exact ih (List.cons_ne_nil e es) ((afterFrame_loopState d s).trans hl) (reportBytes_afterFrame hl hbytes)

/-- PRINT of the whole line where that is the report leaves a report sent (R185, R203). -/
theorem afterPrint_lineOf {s : State} (hbusy : s.txBusy = false) (hl : s.loopState = .reporting)
    (hbytes : reportBytes s = lineOf s) : afterPrint (lineOf s) s = reportSent s := by
  obtain ⟨hline, hphase, hactive⟩ := afterPrint_reportBytes (lineOf_ne_nil s) hl hbytes
  obtain ⟨htxd, hidx⟩ := afterPrint_idle (lineOf_ne_nil s) s
  rw [afterPrint_eq _ hbusy, afterPrint_wave, hline, hphase, hactive, htxd, hidx, lineOf_getLastD]
  rfl

/-- PRINT of the whole line runs through where that is the report (R185, R203). -/
theorem runOps_printOps_lineOf {s : State} (hready : MainReady s) (hl : s.loopState = .reporting)
    (hbaud : 1 ≤ s.cfg.baud) (hbytes : reportBytes s = lineOf s) :
    runOps (printOps (lineOf s)) s = .next (reportSent s) := by
  have ⟨_, _, _, hbusy⟩ := hready
  rw [runOps_printOps _ fun _ => ⟨hready, .inr hl, hbaud⟩, afterPrint_lineOf hbusy hl hbytes]

/-! The canonical turns of a report, which take the same operations (R208). -/

/-- Canonical turns send the rest of a byte in flight, one bit interval a turn (R182, R183, R208). -/
theorem canonicalTurns_dataBits_stopBit {n : Nat} {u v : State} (h : TxReady u) (hie : u.ie = false)
    (hidx : u.txIdx.val + n = 8) (hrun : runOps (List.replicate n .txData ++ [.txStop]) u = .next v) :
    canonicalTurns (n + 1) u = .next v := by
  induction n generalizing u with
  | zero =>
    obtain ⟨x, hstop, hx⟩ := (runOps_cons ..).1 hrun
    have hop : canonicalOp u = .ok .txStop := by rw [canonicalOp_of_txReady h, if_pos (by omega)]
    exact (canonicalTurns_succ ..).2 ⟨x, (canonicalTurn_of_ok hie hop).trans hstop, hx⟩
  | succ n ih =>
    obtain ⟨x, hdata, hx⟩ := (runOps_cons ..).1 hrun
    have hop : canonicalOp u = .ok .txData := by rw [canonicalOp_of_txReady h, if_neg (by omega)]
    obtain ⟨-, rfl⟩ := (runOp_eq_next_iff ..).1 hdata
    have hnext : (u.txIdx + 1).val + n = 8 := by rw [txIdx_add_one (by omega)]; omega
    exact (canonicalTurns_succ ..).2 ⟨_, (canonicalTurn_of_ok hie hop).trans hdata, ih h hie hnext hx⟩

/-- The canonical loop at REPORT in the suspension, about to start a byte (R203, R208). -/
structure AtReport (s : State) : Prop where
  /-- a main-context operation may run -/
  ready : MainReady s
  /-- the suspension, -/
  reporting : s.loopState = .reporting
  /-- which holds delivery -/
  held : s.ie = false
  /-- the place of ML.REPORT in the loop -/
  phase : s.mlPhase = .report
  /-- the transmitter is configured -/
  baud : 1 ≤ s.cfg.baud

theorem AtReport.enabled_txStart {s : State} (h : AtReport s) (d : Byte) : Enabled s (.txStart d) :=
  ⟨h.ready, .inr h.reporting, h.baud⟩

/-- Ten canonical turns send the report's next byte (R184, R208). -/
theorem canonicalTurns_frame {d : Byte} {ds : List Byte} {s : State} (h : AtReport s) (hbytes : reportBytes s = d :: ds) :
    canonicalTurns 10 s = .next (afterFrame d s) := by
  obtain ⟨u, hstart, hrest⟩ := (runOps_cons ..).1 (runOps_txbOps (h.enabled_txStart d))
  have hop : canonicalOp s = .ok (.txStart d) :=
    (canonicalOp_of_mainReady h.ready).trans (loopOp_of_reportBytes h.phase h.reporting hbytes)
  refine (canonicalTurns_succ ..).2 ⟨u, (canonicalTurn_of_ok h.held hop).trans hstart, ?_⟩
  obtain ⟨⟨hctx, hquiet, hrun, -⟩, -, hie, -, hbaud⟩ := h
  obtain ⟨-, rfl⟩ := (runOp_eq_next_iff ..).1 hstart
  have hwrites := reportByteStarted_writes d (effect (.txStart d) s)
  refine canonicalTurns_dataBits_stopBit (n := 8) ?_ ?_ ?_ hrest
  all_goals rw [reportProgress, hwrites]
  · exact ⟨hctx, hquiet, hrun, rfl, hbaud⟩
  · exact hie
  · rfl

/-- After a frame that is not the last the loop is at REPORT again (R203). -/
theorem AtReport.after_frame {d e : Byte} {es : List Byte} {s : State} (h : AtReport s)
    (hbytes : reportBytes s = d :: e :: es) : AtReport (afterFrame d s) := by
  obtain ⟨⟨hctx, hquiet, hrun, -⟩, hl, hie, hphase, hbaud⟩ := h
  rw [afterFrame_of_more hl hbytes]
  exact ⟨⟨hctx, hquiet, hrun, rfl⟩, hl, hie, hphase, hbaud⟩

/-- Ten canonical turns a byte send the whole report (R203, R208). -/
theorem canonicalTurns_report {ds : List Byte} {s : State} (hne : ds ≠ []) (h : AtReport s) (hbytes : reportBytes s = ds) :
    canonicalTurns (10 * ds.length) s = .next (afterPrint ds s) := by
  induction ds generalizing s with
  | nil => exact absurd rfl hne
  | cons d ds ih =>
    have hframe := canonicalTurns_frame h hbytes
    rw [List.length_cons, Nat.mul_succ, Nat.add_comm]
    refine canonicalTurns_add hframe ?_
    cases ds with
    | nil => rfl
    | cons e es => exact ih (List.cons_ne_nil e es) (h.after_frame hbytes) (reportBytes_afterFrame h.reporting hbytes)

/-- In IDLE ML.REPORT is refused for that reason (R203, R222). -/
theorem mlReport_of_idle {s : State} (hready : MainReady s) (hidle : s.loopState = .idle) :
    mlReport s = .refused .notReporting := by
  rw [mlReport, guarded_append_of_clear ((mainIdleChecks_clear s).2 hready)]
  simp [guarded, hidle]

/-- ML.REPORT is refused wherever no main-context operation may run in REPORTING (R203, R229). -/
theorem mlReport_refused {s : State} (h : ¬(MainReady s ∧ s.loopState = .reporting)) : ∃ r, mlReport s = .refused r := by
  rcases answer_cases (mlReport s) with ⟨t, ht⟩ | hr
  · exact absurd ((mlReport_next s t).1 ht).1 h
  · exact hr

/-- Settles O58: the canonical loop takes the operations of PRINT of the line, and the line is the report where ML.REPORT
begins, in the loop or for another host. -/
theorem reportSendsTheDiagnosticLine : Obligations.ReportSendsTheDiagnosticLine := by
  refine ⟨fun s hctx hrun hl hie hphase hbusy hline hbaud => ?_, fun s => ⟨fun hready hl => ⟨?_, fun hbaud => ?_⟩,
    mlReport_refused, fun hready hidle => ⟨mlReport_of_idle hready hidle, fun hphase => ?_⟩⟩,
    fun s rest => step_of_placed⟩
  · have hready : MainReady s := ⟨hctx, dispatchEnabled_of_ie_false hie, hrun, hbusy⟩
    have hbytes := reportBytes_at_report hphase hline
    rw [canonicalTurns_report (lineOf_ne_nil s) ⟨hready, hl, hie, hphase, hbaud⟩ hbytes, afterPrint_lineOf hbusy hl hbytes]
    rfl
  · exact (mlReport_next s _).2 ⟨⟨hready, hl⟩, rfl⟩
  · exact runOps_printOps_lineOf (s := { s with line := lineOf s, reportActive := true }) hready hl hbaud
      (reportBytes_of_active rfl (lineOf_ne_nil s))
  · rw [canonicalTurn, canonicalOp_of_mainReady hready, loopOp_of_idle hphase hidle]

end Sys2Proof.Machine
end

section
/-! When an operation runs (R222), and which: a dispatch before the processor, and of the processor's operations the one that
the context, the phase and the byte in flight leave (R227 to R229). -/

namespace Sys2Proof.Machine

/-- An operation answers a next state exactly when it is enabled. -/
theorem exec_next_iff_enabled (i : Instr) (s : State) : (∃ t, exec i s = .next t) ↔ Enabled s i :=
  ⟨fun ⟨t, ht⟩ => ((exec_eq_next_iff i s t).1 ht).1, fun he => ⟨_, exec_of_enabled he⟩⟩

/-- Settles O30. -/
theorem runsExactlyWhenEnabled : Obligations.RunsExactlyWhenEnabled :=
  fun i s => ⟨(exec_next_iff_enabled i s).2, exec_refused_of_not_enabled⟩

theorem overflowDispatchable_iff (s : State) : overflowDispatchable s = true ↔ s.ie = true ∧ s.ovfPending = true :=
  Bool.and_eq_true_iff

theorem edgeDispatchable_iff (s : State) :
    edgeDispatchable s = true ↔ s.ie = true ∧ s.edgePending = true ∧ s.ctx = .main := by
  simp [edgeDispatchable, and_assoc]

/-- OVF.ISR runs when its latch may be dispatched and the priority does not put the edge first (R112, R230). -/
theorem enabled_ovfIsr {s : State} (hovf : overflowDispatchable s = true)
    (hfirst : ¬(s.cfg.irqPriority = .edgeFirst ∧ edgeDispatchable s = true)) : Enabled s .ovfIsr := by
  obtain ⟨hie, hp⟩ := (overflowDispatchable_iff s).1 hovf
  exact ⟨hie, hp, fun ⟨hprio, hedge⟩ => hfirst ⟨hprio, (edgeDispatchable_iff s).2 ⟨hie, hedge⟩⟩⟩

/-- EC.ENTER runs when its latch may be dispatched and the priority does not put the overflow first (R132, R230). -/
theorem enabled_ecEnter {s : State} (hedge : edgeDispatchable s = true)
    (hfirst : ¬(s.cfg.irqPriority = .ovfFirst ∧ overflowDispatchable s = true)) : Enabled s .ecEnter := by
  obtain ⟨hie, hp, hctx⟩ := (edgeDispatchable_iff s).1 hedge
  exact ⟨hie, hp, hctx, fun ⟨hprio, hovf⟩ => hfirst ⟨hprio, (overflowDispatchable_iff s).2 ⟨hie, hovf⟩⟩⟩

/-- While a dispatch is enabled the one the dispatcher takes may run, whatever the priority (R227, R230). -/
theorem enabled_dispatchOp {s : State} (hd : dispatchEnabled s = true) : Enabled s (dispatchOp s) := by
  unfold dispatchOp
  split
  · next hboth =>
    obtain ⟨hovf, hedge⟩ := Bool.and_eq_true_iff.1 hboth
    split
    · next hprio => exact enabled_ovfIsr hovf (by simp [hprio])
    · next hprio => exact enabled_ecEnter hedge (by simp [hprio])
    · next hprio =>
      split
      · exact enabled_ovfIsr hovf (by simp [hprio])
      · exact enabled_ecEnter hedge (by simp [hprio])
  · next hboth =>
    split
    · next hovf => exact enabled_ovfIsr hovf fun ⟨_, hedge⟩ => hboth (Bool.and_eq_true_iff.2 ⟨hovf, hedge⟩)
    · next hovf =>
      have hedge : edgeDispatchable s = true := (Bool.or_eq_true_iff.1 hd).resolve_left hovf
      exact enabled_ecEnter hedge fun ⟨_, h⟩ => hovf h

/-- One of the two handlers can start exactly when a dispatch is enabled (R227). -/
theorem enabled_irq_iff (s : State) : Enabled s .ovfIsr ∨ Enabled s .ecEnter ↔ dispatchEnabled s = true := by
  constructor
  · rintro (⟨hie, hp, -⟩ | ⟨hie, hp, hctx, -⟩)
    · exact (dispatchEnabled_iff s).2 ⟨hie, .inl hp⟩
    · exact (dispatchEnabled_iff s).2 ⟨hie, .inr ⟨hp, hctx⟩⟩
  · intro hd
    have he := enabled_dispatchOp hd
    rcases dispatchOp_eq s with hop | hop
    · exact .inl (hop ▸ he)
    · exact .inr (hop ▸ he)

/-- Settles O35. -/
theorem dispatchComesBeforeTheProcessor : Obligations.DispatchComesBeforeTheProcessor := by
  refine fun s => ⟨?_, fun hie hlatch i hi => exec_cpu_refused_of_dispatch hi ((dispatchEnabled_iff s).2 ⟨hie, hlatch⟩),
    ⟨_, exec_of_enabled (i := .tick) trivial⟩, fun v => ⟨_, exec_of_enabled (i := .pin v) trivial⟩⟩
  rw [exec_next_iff_enabled, exec_next_iff_enabled, enabled_irq_iff, dispatchEnabled_iff]

/-- What a processor step that runs can be (R228, R229, R253): the handler's next micro-step, the next TX step, a boot step,
or a main-context operation with no byte in flight. -/
theorem enabled_cpu_cases {i : Instr} {s : State} (hi : i.agent = .cpu) (he : Enabled s i) :
    (s.ctx = .edge ∧ i = microStep s.ecPhase) ∨
    (TxReady s ∧ (s.txIdx.val ≤ 7 ∧ i = .txData ∨ s.txIdx.val = 8 ∧ i = .txStop)) ∨
    (∃ p, BootReady p s) ∨
    MainReady s := by
  cases i with
  | reset | tick | pin v | ovfIsr | ecEnter => exact nomatch hi
  | nowSei | nowRdlo | nowCli | nowRdhi | ecRdpin | ecStore | ecRet =>
    obtain ⟨hctx, hphase, -⟩ := he
    exact .inl ⟨hctx, by rw [hphase]; rfl⟩
  | txData =>
    obtain ⟨hready, hidx⟩ := he
    exact .inr (.inl ⟨hready, .inl ⟨hidx, rfl⟩⟩)
  | txStop =>
    obtain ⟨hready, hidx⟩ := he
    exact .inr (.inl ⟨hready, .inr ⟨hidx, rfl⟩⟩)
  | bootMode m | bootStart => exact .inr (.inr (.inl ⟨_, he⟩))
  | mlWidth | mlPwmwr => exact .inr (.inr (.inr he))
  | mlClaim | mlClassify | txStart d | mlPoll | mlSuspend | mlClrrdy | mlResume | csEnter | csLeave =>
    obtain ⟨hready, -⟩ := he
    exact .inr (.inr (.inr hready))

/-- Settles O36: every other processor step needs the main context. -/
theorem handlerHasOneNextStep : Obligations.HandlerHasOneNextStep := by
  intro s hctx hquiet i hi
  rw [exec_next_iff_enabled]
  constructor
  · intro he
    rcases enabled_cpu_cases hi he with ⟨-, hstep⟩ | ⟨⟨hmain, -⟩, -⟩ | ⟨p, -, hmain, -⟩ | ⟨hmain, -⟩
    · exact hstep
    all_goals exact nomatch hctx.symm.trans hmain
  · rintro rfl
    exact (enabled_microStep _ s).2 ⟨hctx, rfl, hquiet⟩

/-- Settles O37: every other processor step needs the handler's context or no byte in flight. -/
theorem byteInFlightBlocksTheRest : Obligations.ByteInFlightBlocksTheRest := by
  intro s hready i hi
  rw [exec_next_iff_enabled]
  constructor
  · intro he
    obtain ⟨hctx, -, -, hbusy, -⟩ := hready
    rcases enabled_cpu_cases hi he with ⟨hedge, -⟩ | ⟨-, hstep⟩ | ⟨p, -, -, -, hfree⟩ | ⟨-, -, -, hfree⟩
    · exact nomatch hctx.symm.trans hedge
    · exact hstep
    all_goals exact nomatch hbusy.symm.trans hfree
  · rintro (⟨hidx, rfl⟩ | ⟨hidx, rfl⟩)
    · exact ⟨hready, hidx⟩
    · exact ⟨hready, hidx⟩

end Sys2Proof.Machine
end

section
/-! Both latches set (R230, R261): the overflow served before the entry or in the window of NOW. -/

namespace Sys2Proof.Machine

/-- ML.REPORT adds nothing to a dispatch (R103). -/
theorem runOps_irq_cons {i : Instr} (hi : i.agent = .irq) (is : List Instr) {s : State} (he : Enabled s i) :
    runOps (i :: is) s = runOps is (effect i s) := by
  have hreport : reportProgress i (effect i s) = effect i s := by
    cases i with
    | ovfIsr | ecEnter => rfl
    | _ => exact nomatch hi
  rw [runOps, runOp_of_next (exec_of_enabled he), hreport]

/-- Settles O48: OVF.ISR writes no field that EC.ENTER and NOW.SEI read or write, so that NOW goes on from one state. -/
theorem bothDispatchOrdersAgree : Obligations.BothDispatchOrdersAgree := by
  intro s hie hovf hedge hctx hprio
  have hfirst : runOps [.ovfIsr, .ecEnter, .nowSei, .nowRdlo, .nowCli, .nowRdhi] s =
      runOps nowOps (enterEdgeHandler (overflowHandler s)) :=
    calc runOps [.ovfIsr, .ecEnter, .nowSei, .nowRdlo, .nowCli, .nowRdhi] s
      _ = runOps (.ecEnter :: nowOps) (overflowHandler s) :=
        runOps_irq_cons rfl _ ⟨hie, hovf, by simp [hprio]⟩
      _ = _ := runOps_irq_cons rfl _ ⟨hie, hedge, hctx, by simp [hprio]⟩
  have hwindow : runOps [.ecEnter, .nowSei, .ovfIsr, .nowRdlo, .nowCli, .nowRdhi] s =
      runOps nowOps (enterEdgeHandler (overflowHandler s)) :=
    calc runOps [.ecEnter, .nowSei, .ovfIsr, .nowRdlo, .nowCli, .nowRdhi] s
      _ = runOps [.nowSei, .ovfIsr, .nowRdlo, .nowCli, .nowRdhi] (enterEdgeHandler s) :=
        runOps_irq_cons rfl _ ⟨hie, hedge, hctx, by simp [hprio]⟩
      _ = runOps [.ovfIsr, .nowRdlo, .nowCli, .nowRdhi] (effect .nowSei (enterEdgeHandler s)) :=
        runOps_microStep_cons .sei _ ⟨rfl, rfl, dispatchEnabled_of_ie_false rfl⟩
      _ = runOps [.nowRdlo, .nowCli, .nowRdhi] (effect .nowSei (enterEdgeHandler (overflowHandler s))) :=
        runOps_irq_cons rfl _ ⟨rfl, hovf, by simp [effect, hprio]⟩
      _ = _ := (runOps_microStep_cons .sei _ (microReady_of_no_latch rfl rfl rfl)).symm
  have hnow := runOps_nowOps_undisturbed (s := enterEdgeHandler (overflowHandler s)) rfl rfl rfl
  refine ⟨_, hfirst.trans hnow, hwindow.trans hnow, ?_⟩
  calc composedTick (overflowHandler s)
    _ = tickTrue (overflowHandler s) := (tickTrue_of_no_latch rfl).symm
    _ = tickTrue s := tickTrue_overflowHandler hovf

end Sys2Proof.Machine
end

section
/-! Progress (R227 to R229, R253, R283): the canonical loop's next operation is enabled, it spins at POLL, and a run has no
end, with or without the processor. -/

namespace Sys2Proof.Machine

/-- No enabling condition reads the count of free values drawn (log 6). -/
theorem enabled_withDraws (i : Instr) (s : State) (draws : Nat) : Enabled { s with draws := draws } i ↔ Enabled s i := by
  cases i <;> exact Iff.rfl

/-- A canonical turn is its operation, perhaps with one free value drawn. -/
theorem canonicalTurn_eq_runOp {i : Instr} {s : State} (h : canonicalOp s = .ok i) :
    ∃ draws, s.draws ≤ draws ∧ canonicalTurn s = runOp i { s with draws := draws } := by
  unfold canonicalTurn
  rw [h]
  cases choiceOpen s with
  | true => exact ⟨s.draws + 1, Nat.le_succ _, rfl⟩
  | false => exact ⟨s.draws, le_rfl, rfl⟩

/-- While no dispatch is enabled a canonical turn draws no free value. -/
theorem canonicalTurn_of_quiet {i : Instr} {s : State} (hquiet : dispatchEnabled s = false)
    (h : canonicalOp s = .ok i) : canonicalTurn s = runOp i s := by
  have hovf : overflowDispatchable s = false := (Bool.or_eq_false_iff.1 hquiet).1
  simp [canonicalTurn, h, choiceOpen, hovf]

/-- At REPORT there is always a byte to send: the rest of the line, or the whole of it (R203, log 13). -/
theorem reportBytes_ne_nil {s : State} (hphase : s.mlPhase = .report) : reportBytes s ≠ [] := by
  rw [reportBytes, if_pos hphase]
  split
  · next hrest => simpa using (Bool.and_eq_true_iff.1 hrest).2
  · exact lineOf_ne_nil s

section
variable {s : State} (hs : StateInv s) (hl : LoopInv s) (hcls : classifierConfigured s.cfg = true)
  (hbaud : 1 ≤ s.cfg.baud)
include hs hl hcls hbaud

/-- The operation `ml_phase` names may run where a main-context operation may: `loop_state`, `r` and `ie` agree with the
phase (R208, R229). -/
theorem enabled_loopOp (hready : MainReady s) : ∃ i, loopOp s = .ok i ∧ Enabled s i := by
  have hreporting : ¬(s.mlPhase = .poll ∨ s.mlPhase = .suspend) → s.loopState = .reporting := fun h =>
    hl.reporting_of_phase (h ∘ .inl) (h ∘ .inr)
  have hheld : s.loopState = .reporting → s.ie = false := fun h => (hs.held_of_reporting h).1
  cases hphase : s.mlPhase with
  | poll => exact ⟨.mlPoll, by rw [loopOp, hphase], hready, hl.position.2 (.inl hphase)⟩
  | suspend =>
    have hidle := hl.position.2 (.inr hphase)
    have ⟨hctx, _, hrun, _⟩ := hready
    exact ⟨.mlSuspend, by rw [loopOp, hphase], hready, hidle, hl.delivering hidle hctx hrun, hl.observed hphase⟩
  | claim =>
    exact ⟨.mlClaim, by rw [loopOp, hphase], hready, hheld (hreporting (by simp [hphase]))⟩
  | width => exact ⟨.mlWidth, by rw [loopOp, hphase], hready⟩
  | classify => exact ⟨.mlClassify, by rw [loopOp, hphase], hready, hcls⟩
  | pwmwr => exact ⟨.mlPwmwr, by rw [loopOp, hphase], hready⟩
  | report =>
    have hrep := hreporting (by simp [hphase])
    obtain ⟨d, ds, hbytes⟩ := List.exists_cons_of_ne_nil (reportBytes_ne_nil hphase)
    exact ⟨.txStart d, loopOp_of_reportBytes hphase hrep hbytes, hready, .inr hrep, hbaud⟩
  | clrrdy =>
    exact ⟨.mlClrrdy, by rw [loopOp, hphase], hready, hheld (hreporting (by simp [hphase]))⟩
  | resume => exact ⟨.mlResume, by rw [loopOp, hphase], hready, hreporting (by simp [hphase])⟩

/-- The operation of a canonical turn may run: the dispatch, the micro-step, the boot step, the TX step or the loop's own
operation, in the order of R227 to R229 and R253. -/
theorem enabled_canonicalOp : ∃ i, canonicalOp s = .ok i ∧ Enabled s i := by
  unfold canonicalOp
  split
  · next hd => exact ⟨_, rfl, enabled_dispatchOp hd⟩
  · next hd =>
    have hquiet : dispatchEnabled s = false := Bool.eq_false_iff.2 hd
    have hfree : s.bootPhase ≠ .run → s.txBusy = false := fun h => by
      obtain ⟨-, -, -, hbusy, -⟩ := hs.notBooted h
      exact hbusy
    split
    · next _ hctx => exact ⟨_, rfl, (enabled_microStep _ s).2 ⟨hctx, rfl, hquiet⟩⟩
    · next hctx hboot => exact ⟨_, rfl, hboot, hctx, hquiet, hfree (by simp [hboot])⟩
    · next hctx hboot => exact ⟨_, rfl, hboot, hctx, hquiet, hfree (by simp [hboot])⟩
    · next hctx hrun =>
      split
      · next hbusy =>
        have htx : TxReady s := ⟨hctx, hquiet, hrun, hbusy, hbaud⟩
        split
        · next hidx => exact ⟨.txStop, rfl, htx, hidx⟩
        · next hidx => exact ⟨.txData, rfl, htx, by omega⟩
      · next hbusy => exact enabled_loopOp hs hl hcls hbaud ⟨hctx, hquiet, hrun, Bool.eq_false_iff.2 hbusy⟩

/-- A canonical turn is never refused where a run of the canonical loop can be (R208, R229). -/
theorem canonicalTurn_answers : ∃ t, canonicalTurn s = .next t := by
  obtain ⟨i, hop, he⟩ := enabled_canonicalOp hs hl hcls hbaud
  obtain ⟨draws, -, hturn⟩ := canonicalTurn_eq_runOp hop
  exact ⟨_, hturn.trans (runOp_of_next (exec_of_enabled ((enabled_withDraws i s draws).2 he)))⟩

end

/-- At POLL with `ready = 0` a canonical turn polls and stays there (R201, R283). -/
theorem canonicalTurn_poll_of_not_ready {s : State} (hmain : MainReady s) (hidle : s.loopState = .idle)
    (hphase : s.mlPhase = .poll) (hready : s.ready = false) :
    canonicalTurn s = .next { s with r := false, reportActive := false } := by
  have ⟨_, hquiet, _, _⟩ := hmain
  have hop : canonicalOp s = .ok .mlPoll := by rw [canonicalOp_of_mainReady hmain, loopOp, hphase]
  have hpoll : effect .mlPoll s = { s with r := false } := by
    rw [effect_mlPoll_of_not_ready hready, ← hphase]
  rw [canonicalTurn_of_quiet hquiet hop, runOp_of_next (exec_of_enabled (i := .mlPoll) ⟨hmain, hidle⟩), hpoll]
  rfl

/-- It spins there for ever (R283): the state after the first turn is one that each later turn leaves as it is. -/
theorem canonicalTurns_spin (n : Nat) {s : State} (hmain : MainReady s) (hidle : s.loopState = .idle)
    (hphase : s.mlPhase = .poll) (hready : s.ready = false) :
    canonicalTurns (n + 1) s = .next { s with r := false, reportActive := false } := by
  induction n generalizing s with
  | zero => exact (canonicalTurns_succ ..).2 ⟨_, canonicalTurn_poll_of_not_ready hmain hidle hphase hready, rfl⟩
  | succ n ih =>
    have hrest := ih (s := { s with r := false, reportActive := false }) hmain hidle hphase hready
    exact (canonicalTurns_succ ..).2 ⟨_, canonicalTurn_poll_of_not_ready hmain hidle hphase hready, hrest⟩

/-- An operation leaves the turns to come and takes back no free value drawn (R250, log 6). -/
theorem runOp_schedule_draws {i : Instr} {s t : State} (h : runOp i s = .next t) :
    t.schedule = s.schedule ∧ s.draws ≤ t.draws := by
  obtain ⟨-, rfl⟩ := (runOp_eq_next_iff i s t).1 h
  rw [reportProgress_writes]
  cases i with
  | reset => exact ⟨rfl, Nat.le_succ _⟩
  | _ => exact ⟨rfl, le_rfl⟩

/-- So does a turn. -/
theorem takeTurn_schedule_draws {turn : Turn} {s t : State} (h : takeTurn turn s = .next t) :
    t.schedule = s.schedule ∧ s.draws ≤ t.draws := by
  cases turn with
  | report =>
    obtain ⟨-, rfl⟩ := (mlReport_next s t).1 h
    exact ⟨rfl, le_rfl⟩
  | word w =>
    cases hw : decode w with
    | ok i => exact runOp_schedule_draws (takeTurn_word_of_ok hw s ▸ h)
    | error e => exact nomatch (takeTurn_word_of_error hw s).symm.trans h
  | canonical =>
    have h : canonicalTurn s = .next t := h
    cases hop : canonicalOp s with
    | ok i =>
      obtain ⟨draws, hdraws, hturn⟩ := canonicalTurn_eq_runOp hop
      obtain ⟨hschedule, hle⟩ := runOp_schedule_draws (hturn ▸ h)
      exact ⟨hschedule, hdraws.trans hle⟩
    | error r => simp [canonicalTurn, hop] at h

/-- With no turn placed a step answers, the free turn or a TICK in its stead, and uses up a free value (R283, log 24). -/
theorem step_of_unplaced_answers {s : State} (h : s.schedule = []) :
    ∃ t, step s = .next t ∧ t.schedule = [] ∧ s.draws < t.draws := by
  rw [step_of_unplaced h]
  rcases freeStep_cases s with ⟨t, hturn, hfree⟩ | ⟨-, hfree⟩
  · obtain ⟨hschedule, hdraws⟩ := takeTurn_schedule_draws hturn
    exact ⟨t, hfree, hschedule.trans h, hdraws⟩
  · exact ⟨_, hfree, h, Nat.lt_succ_self _⟩

/-- The run that the outside world and the counter make alone. -/
def inputRun (inputs : Nat → Instr) (s : State) : Nat → State
  | 0 => s
  | n + 1 => effect (inputs n) (inputRun inputs s n)

/-- The word of TICK or PIN runs in any state (R111, R131). -/
theorem takeTurn_input {i : Instr} (hi : isInput i = true) (s : State) :
    takeTurn (.word (encode i)) s = .next (effect i s) := by
  rw [takeTurn_word_of_ok (decode_encode i)]
  cases i with
  | tick | pin v => rfl
  | _ => exact nomatch hi

/-- Settles O34. -/
theorem canonicalLoopIsNeverStuck : Obligations.CanonicalLoopIsNeverStuck :=
  ⟨fun _ => canonicalTurn_answers, fun _ n => canonicalTurns_spin n, fun _ => step_of_unplaced_answers,
    fun s inputs hinputs => ⟨inputRun inputs s, rfl, fun n => takeTurn_input (hinputs n) _⟩⟩

end Sys2Proof.Machine
end

section
/-! Reset and boot (R250 to R253): what RESET leaves, and the boot steps, one at each place of the boot order. -/

namespace Sys2Proof.Machine

/-- Settles O1. -/
theorem resetLeavesStatedValues : Obligations.ResetLeavesStatedValues :=
  ⟨decode_encode .reset, fun s =>
    ⟨powerOn s, exec_of_enabled (i := .reset) trivial,
      powerOn_hi s, powerOn_tStart s, powerOn_tEnd s, powerOn_ready s, powerOn_ovfPending s, powerOn_edgePending s,
      powerOn_txBusy s, powerOn_txIdx s, powerOn_ie s, powerOn_ctx s, powerOn_loopState s, powerOn_mlPhase s,
      powerOn_bootPhase s, powerOn_txd s, powerOn_wave s, powerOn_pwmLog s, powerOn_ticks s, powerOn_pin s⟩⟩

/-- Before BOOT.START the boot order alone decides whether a boot step may run: nothing is pending or in flight (R45 (f)). -/
theorem StateInv.bootReady_iff {s : State} (hs : StateInv s) {p : BootPhase} (hp : p ≠ .run) :
    BootReady p s ↔ s.bootPhase = p := by
  constructor
  · rintro ⟨hphase, -⟩
    exact hphase
  · intro hphase
    obtain ⟨hie, hctx, -, hfree, -⟩ := hs.notBooted (hphase ▸ hp)
    exact ⟨hphase, hctx, dispatchEnabled_of_ie_false hie, hfree⟩

/-- BOOT.MODE's place in the boot order (R251). -/
theorem StateInv.enabled_bootMode_iff {s : State} (hs : StateInv s) (m : BitVec 2) :
    Enabled s (.bootMode m) ↔ s.bootPhase = .sample :=
  hs.bootReady_iff nofun

/-- BOOT.START's place in the boot order (R252). -/
theorem StateInv.enabled_bootStart_iff {s : State} (hs : StateInv s) : Enabled s .bootStart ↔ s.bootPhase = .start :=
  hs.bootReady_iff nofun

/-- Settles O25. -/
theorem bootStepsRunInOrder : Obligations.BootStepsRunInOrder :=
  ⟨decode_encode (.bootMode 0#2), decode_encode (.bootMode 1#2), decode_encode (.bootMode 2#2),
    decode_encode (.bootMode 3#2), decode_encode .bootStart, fun m _ hs =>
      ⟨fun hphase => exec_of_enabled ((hs.enabled_bootMode_iff m).2 hphase),
        fun hphase => exec_refused_of_not_enabled (hphase ∘ (hs.enabled_bootMode_iff m).1),
        fun hphase => exec_of_enabled (hs.enabled_bootStart_iff.2 hphase),
        fun hphase => exec_refused_of_not_enabled (hphase ∘ hs.enabled_bootStart_iff.1)⟩⟩

/-- A processor step that runs is a micro-step, a boot step, or a step of the booted main context (R228, R229). -/
theorem edge_or_booted_or_bootStep {i : Instr} {s : State} (hi : i.agent = .cpu) (he : Enabled s i) :
    s.ctx = .edge ∨ s.bootPhase = .run ∨ (∃ m, i = .bootMode m) ∨ i = .bootStart := by
  cases i with
  | reset | tick | pin v | ovfIsr | ecEnter => exact nomatch hi
  | nowSei | nowRdlo | nowCli | nowRdhi | ecRdpin | ecStore | ecRet =>
    obtain ⟨hctx, -⟩ := he
    exact .inl hctx
  | mlWidth | mlPwmwr =>
    obtain ⟨-, -, hrun, -⟩ := he
    exact .inr (.inl hrun)
  | mlClaim | mlClassify | txStart d | txData | txStop | mlPoll | mlSuspend | mlClrrdy | mlResume | csEnter | csLeave =>
    obtain ⟨⟨-, -, hrun, -⟩, -⟩ := he
    exact .inr (.inl hrun)
  | bootMode m => exact .inr (.inr (.inl ⟨m, rfl⟩))
  | bootStart => exact .inr (.inr (.inr rfl))

/-- With delivery off neither handler is dispatched (R112, R132). -/
theorem exec_irq_refused_of_ie_false {i : Instr} {s : State} (hi : i.agent = .irq) (hie : s.ie = false) :
    ∃ r, exec i s = .refused r :=
  exec_refused_of_not_enabled fun he => Bool.false_ne_true (hie.symm.trans (ie_of_enabled_irq hi he))

/-- Settles O38: before BOOT.START the handler's context is not reached, so that a processor step that runs is a boot step,
and delivery is off. -/
theorem onlyBootStepsBeforeStart : Obligations.OnlyBootStepsBeforeStart := by
  intro s hs hboot
  have ⟨hie, _⟩ := hs.notBooted hboot
  refine ⟨fun i hi => ?_, exec_irq_refused_of_ie_false rfl hie, exec_irq_refused_of_ie_false rfl hie,
    ⟨_, exec_of_enabled (i := .tick) trivial⟩, fun v => ⟨_, exec_of_enabled (i := .pin v) trivial⟩⟩
  rw [exec_next_iff_enabled]
  constructor
  · intro he
    rcases edge_or_booted_or_bootStep hi he with hedge | hrun | ⟨m, rfl⟩ | rfl
    · exact absurd (hs.run_of_edge hedge) hboot
    · exact absurd hrun hboot
    · exact .inl ⟨(hs.enabled_bootMode_iff m).1 he, m, rfl⟩
    · exact .inr ⟨hs.enabled_bootStart_iff.1 he, rfl⟩
  · rintro (⟨hphase, m, rfl⟩ | ⟨hphase, rfl⟩)
    · exact (hs.enabled_bootMode_iff m).2 hphase
    · exact hs.enabled_bootStart_iff.2 hphase

end Sys2Proof.Machine
end
